-- ==== Sys2Proof/Word.lean ====
section
/-! DEFINITION. The two word types of the core (00_scope.md R9, R13): bytes and 16-bit words, as bit vectors. -/

namespace Sys2Proof

/-- A register cell or a memory byte: 8 bits (R9). -/
abbrev Byte := BitVec 8

/-- A register pair, the program counter, the stack pointer or an address: 16 bits (R9). -/
abbrev Word := BitVec 16

end Sys2Proof
end

