-- ==== Sys2Proof/Config.lean ====
section
/-! DEFINITION. The parameters of a model of the core (00_scope.md R8, R10, R11). They are fixed for a run, and the
core has no other. A state carries them as plain data (`State.params`, assumption log 1), so every statement about every
state holds for each of the four choices. Beside them stand the two free draws of R11: the inputs of the core at the boundaries
that no state fixes. The spec leaves no result, flag or register undefined, so there is no other free value. -/

namespace Sys2Proof

/-- PROFILE (R8): `doc` is the instruction set the source specifies, `full` the whole LR35902 opcode space. -/
inductive Profile where
  | doc
  | full
  deriving DecidableEq, Repr

/-- WORD_ORDER (R10): the byte order of the MMU word primitives and of 16-bit immediates. `be` puts the high byte at the
lower address (the normative value), `le` the low byte. The stack order does not depend on it. -/
inductive WordOrder where
  | be
  | le
  deriving DecidableEq, Repr

/-- The two parameters of a run (R11). -/
structure Params where
  profile   : Profile
  wordOrder : WordOrder
  deriving DecidableEq, Repr

/-- The parameters of the model's reset state and of `decodeTableWord`: the whole opcode space, in the normative byte
order. DESIGN CHOICE (assumption log 1): R8 gives no default profile; unsafe for a reader who wants the other values. -/
def Params.standard : Params := ⟨.full, .be⟩

/-! ## The free draws (R11; 60_exceptions.md R711, R712; 30_encoding.md R147)

Each is a constant without a body: nothing can evaluate it or prove a value of it, so a claim that reads it holds for every sequence of
draws (assumption log 2). -/

/-- The interrupt request drawn at the boundary of a number: none, or an index 0 to 4 (60_exceptions.md R712). -/
opaque Config.irqRequest : Nat → Option (Fin 5)

/-- The stop input drawn at the boundary of a number (60_exceptions.md R711). -/
opaque Config.stopInput : Nat → Bool

end Sys2Proof
end

