-- ==== Sys2Proof/Machine/Bits.lean ====
section
/-! DEFINITION. Bit fields, sign extension and byte order (00_scope.md R12, R13; 20_memory.md R84 to R86; 30_encoding.md R121). -/

namespace Sys2Proof

/-- `hi8(v)`: bits 15 to 8 (R13). -/
def hi8 (v : Word) : Byte := v.extractLsb' 8 8

/-- `lo8(v)`: bits 7 to 0 (R13). -/
def lo8 (v : Word) : Byte := v.extractLsb' 0 8

/-- `hi:lo`: two bytes as a word, the first in bits 15 to 8 (R13). -/
def joinBytes (hi lo : Byte) : Word := hi ++ lo

/-- `zext_16(b)` (R13). -/
def zext16 (b : Byte) : Word := b.setWidth 16

/-- `sext_16(b)`: a displacement byte as a two's-complement 16-bit value (R13, R126). -/
def sext16 (b : Byte) : Word := b.signExtend 16

/-- The word that two bytes at rising addresses hold in WORD_ORDER (R84). -/
def wordOfBytes : WordOrder → Byte → Byte → Word
  | .be, b0, b1 => joinBytes b0 b1
  | .le, b0, b1 => joinBytes b1 b0

/-- The byte of a word that lies at the lower address in WORD_ORDER (R85). -/
def firstByte : WordOrder → Word → Byte
  | .be, v => hi8 v
  | .le, v => lo8 v

/-- The byte of a word that lies at the higher address in WORD_ORDER (R85). -/
def secondByte : WordOrder → Word → Byte
  | .be, v => lo8 v
  | .le, v => hi8 v

/-- The two bytes of a word at rising addresses in WORD_ORDER. -/
def wordBytes (o : WordOrder) (v : Word) : List Byte := [firstByte o v, secondByte o v]

/-- `op`: bits 7 to 6 of an opcode byte (R121). -/
def opField (c : Byte) : Nat := c.toNat / 64

/-- `x`: bits 5 to 3 (R121). -/
def xField (c : Byte) : Nat := c.toNat / 8 % 8

/-- `y`: bits 2 to 0 (R121). -/
def yField (c : Byte) : Nat := c.toNat % 8

end Sys2Proof
end

