-- ==== Sys2Proof/Syntax.lean ====
section
/-! DEFINITION. The instructions of the core: `Instr` has one constructor per row of spec/opcode_table.json (512 rows: 256
base, 256 CB). The eleven holes of the base map (30_encoding.md R132) are constructors too, because the table lists them
and the spec gives them an effect (47_system.md R603). `prefixCb` is the table's row of the byte 0xCB itself (R133).
A constructor's argument is the immediate of its form (R120, R127): `n` an unsigned byte, `e` a signed displacement byte,
`nn` a 16-bit value already put together in WORD_ORDER, `ignored` the second byte of STOP (R602). The operand types below
name what a field of an opcode selects; they index the builders of Machine/Forms.lean and the shared operations. -/

namespace Sys2Proof

/-- The register operands of an instruction field (10_state.md R30, 30_encoding.md R123). F is not among them (R31). -/
inductive Reg8 where
  | b | c | d | e | h | l | a
  deriving DecidableEq, Repr

/-- An 8-bit operand field: a register, or for code 110 the byte at address HL (R124). -/
inductive Operand8 where
  | reg (r : Reg8)
  | atHl
  deriving DecidableEq, Repr

/-- The pair table `rp` of LD rr,nn, INC rr, DEC rr and ADD HL,rr (R35). -/
inductive Pair where
  | bc | de | hl | sp
  deriving DecidableEq, Repr

/-- The pair table `rp2` of PUSH and POP (R35). -/
inductive StackPair where
  | bc | de | hl | af
  deriving DecidableEq, Repr

/-- The four conditions of a condition field (R41). -/
inductive Cond where
  | nz | z | nc | c
  deriving DecidableEq, Repr

/-- The eight operations of the 8-bit ALU column, in the order of x (R131). -/
inductive AluOp where
  | add | adc | sub | sbc | and | xor | or | cp
  deriving DecidableEq, Repr

/-- The eight CB rotates and shifts, in the order of x (R133). -/
inductive RotOp where
  | rlc | rrc | rl | rr | sla | sra | swap | srl
  deriving DecidableEq, Repr

/-- A 3-bit field read as a number: the bit index b of BIT, RES and SET, or the target t of RST (R122). -/
inductive Oct where
  | o0 | o1 | o2 | o3 | o4 | o5 | o6 | o7
  deriving DecidableEq, Repr

/-- The instructions: one constructor per row of spec/opcode_table.json: first the rows with an immediate, then the others,
each in the table's order. (Compiled Lean numbers the constructors that carry data in one byte, so those stand first.) -/
inductive Instr where
  /-- 01: LD BC,d16, R250. -/
  | ldBcD16 (nn : Word)
  /-- 06: LD B,d8, R201. -/
  | ldBD8 (n : Byte)
  /-- 08: LD (a16),SP, R256. -/
  | ldAtA16Sp (nn : Word)
  /-- 0E: LD C,d8, R201. -/
  | ldCD8 (n : Byte)
  /-- 10: STOP, R602. -/
  | stop (ignored : Byte)
  /-- 11: LD DE,d16, R250. -/
  | ldDeD16 (nn : Word)
  /-- 16: LD D,d8, R201. -/
  | ldDD8 (n : Byte)
  /-- 18: JR e8, R553. -/
  | jrE8 (e : Byte)
  /-- 1E: LD E,d8, R201. -/
  | ldED8 (n : Byte)
  /-- 20: JR NZ,e8, R554. -/
  | jrNzE8 (e : Byte)
  /-- 21: LD HL,d16, R250. -/
  | ldHlD16 (nn : Word)
  /-- 26: LD H,d8, R201. -/
  | ldHD8 (n : Byte)
  /-- 28: JR Z,e8, R554. -/
  | jrZE8 (e : Byte)
  /-- 2E: LD L,d8, R201. -/
  | ldLD8 (n : Byte)
  /-- 30: JR NC,e8, R554. -/
  | jrNcE8 (e : Byte)
  /-- 31: LD SP,d16, R250. -/
  | ldSpD16 (nn : Word)
  /-- 36: LD (HL),d8, R204. -/
  | ldAtHlD8 (n : Byte)
  /-- 38: JR C,e8, R554. -/
  | jrCE8 (e : Byte)
  /-- 3E: LD A,d8, R201. -/
  | ldAD8 (n : Byte)
  /-- C2: JP NZ,a16, R551. -/
  | jpNzA16 (nn : Word)
  /-- C3: JP a16, R550. -/
  | jpA16 (nn : Word)
  /-- C4: CALL NZ,a16, R556. -/
  | callNzA16 (nn : Word)
  /-- C6: ADD A,d8, R301. -/
  | addAD8 (n : Byte)
  /-- CA: JP Z,a16, R551. -/
  | jpZA16 (nn : Word)
  /-- CC: CALL Z,a16, R556. -/
  | callZA16 (nn : Word)
  /-- CD: CALL a16, R555. -/
  | callA16 (nn : Word)
  /-- CE: ADC A,d8, R304. -/
  | adcAD8 (n : Byte)
  /-- D2: JP NC,a16, R551. -/
  | jpNcA16 (nn : Word)
  /-- D4: CALL NC,a16, R556. -/
  | callNcA16 (nn : Word)
  /-- D6: SUB d8, R307. -/
  | subD8 (n : Byte)
  /-- DA: JP C,a16, R551. -/
  | jpCA16 (nn : Word)
  /-- DC: CALL C,a16, R556. -/
  | callCA16 (nn : Word)
  /-- DE: SBC A,d8, R310. -/
  | sbcAD8 (n : Byte)
  /-- E0: LDH (a8),A, R216. -/
  | ldhAtA8A (n : Byte)
  /-- E6: AND d8, R316. -/
  | andD8 (n : Byte)
  /-- E8: ADD SP,e8, R403. -/
  | addSpE8 (e : Byte)
  /-- EA: LD (a16),A, R218. -/
  | ldAtA16A (nn : Word)
  /-- EE: XOR d8, R319. -/
  | xorD8 (n : Byte)
  /-- F0: LDH A,(a8), R215. -/
  | ldhAAtA8 (n : Byte)
  /-- F6: OR d8, R322. -/
  | orD8 (n : Byte)
  /-- F8: LD HL,SP+e8, R257. -/
  | ldHlSpE8 (e : Byte)
  /-- FA: LD A,(a16), R217. -/
  | ldAAtA16 (nn : Word)
  /-- FE: CP d8, R325. -/
  | cpD8 (n : Byte)
  /-- 00: NOP, R600. -/
  | nop
  /-- 02: LD (BC),A, R207. -/
  | ldAtBcA
  /-- 03: INC BC, R400. -/
  | incBc
  /-- 04: INC B, R330. -/
  | incB
  /-- 05: DEC B, R332. -/
  | decB
  /-- 07: RLCA, R450. -/
  | rlca
  /-- 09: ADD HL,BC, R402. -/
  | addHlBc
  /-- 0A: LD A,(BC), R205. -/
  | ldAAtBc
  /-- 0B: DEC BC, R401. -/
  | decBc
  /-- 0C: INC C, R330. -/
  | incC
  /-- 0D: DEC C, R332. -/
  | decC
  /-- 0F: RRCA, R451. -/
  | rrca
  /-- 12: LD (DE),A, R208. -/
  | ldAtDeA
  /-- 13: INC DE, R400. -/
  | incDe
  /-- 14: INC D, R330. -/
  | incD
  /-- 15: DEC D, R332. -/
  | decD
  /-- 17: RLA, R452. -/
  | rla
  /-- 19: ADD HL,DE, R402. -/
  | addHlDe
  /-- 1A: LD A,(DE), R206. -/
  | ldAAtDe
  /-- 1B: DEC DE, R401. -/
  | decDe
  /-- 1C: INC E, R330. -/
  | incE
  /-- 1D: DEC E, R332. -/
  | decE
  /-- 1F: RRA, R453. -/
  | rra
  /-- 22: LD (HL+),A, R211. -/
  | ldAtHlIncA
  /-- 23: INC HL, R400. -/
  | incHl
  /-- 24: INC H, R330. -/
  | incH
  /-- 25: DEC H, R332. -/
  | decH
  /-- 27: DAA, R454. -/
  | daa
  /-- 29: ADD HL,HL, R402. -/
  | addHlHl
  /-- 2A: LD A,(HL+), R209. -/
  | ldAAtHlInc
  /-- 2B: DEC HL, R401. -/
  | decHl
  /-- 2C: INC L, R330. -/
  | incL
  /-- 2D: DEC L, R332. -/
  | decL
  /-- 2F: CPL, R455. -/
  | cpl
  /-- 32: LD (HL-),A, R212. -/
  | ldAtHlDecA
  /-- 33: INC SP, R400. -/
  | incSp
  /-- 34: INC (HL), R331. -/
  | incAtHl
  /-- 35: DEC (HL), R333. -/
  | decAtHl
  /-- 37: SCF, R456. -/
  | scf
  /-- 39: ADD HL,SP, R402. -/
  | addHlSp
  /-- 3A: LD A,(HL-), R210. -/
  | ldAAtHlDec
  /-- 3B: DEC SP, R401. -/
  | decSp
  /-- 3C: INC A, R330. -/
  | incA
  /-- 3D: DEC A, R332. -/
  | decA
  /-- 3F: CCF, R457. -/
  | ccf
  /-- 40: LD B,B, R200. -/
  | ldBB
  /-- 41: LD B,C, R200. -/
  | ldBC
  /-- 42: LD B,D, R200. -/
  | ldBD
  /-- 43: LD B,E, R200. -/
  | ldBE
  /-- 44: LD B,H, R200. -/
  | ldBH
  /-- 45: LD B,L, R200. -/
  | ldBL
  /-- 46: LD B,(HL), R202. -/
  | ldBAtHl
  /-- 47: LD B,A, R200. -/
  | ldBA
  /-- 48: LD C,B, R200. -/
  | ldCB
  /-- 49: LD C,C, R200. -/
  | ldCC
  /-- 4A: LD C,D, R200. -/
  | ldCD
  /-- 4B: LD C,E, R200. -/
  | ldCE
  /-- 4C: LD C,H, R200. -/
  | ldCH
  /-- 4D: LD C,L, R200. -/
  | ldCL
  /-- 4E: LD C,(HL), R202. -/
  | ldCAtHl
  /-- 4F: LD C,A, R200. -/
  | ldCA
  /-- 50: LD D,B, R200. -/
  | ldDB
  /-- 51: LD D,C, R200. -/
  | ldDC
  /-- 52: LD D,D, R200. -/
  | ldDD
  /-- 53: LD D,E, R200. -/
  | ldDE
  /-- 54: LD D,H, R200. -/
  | ldDH
  /-- 55: LD D,L, R200. -/
  | ldDL
  /-- 56: LD D,(HL), R202. -/
  | ldDAtHl
  /-- 57: LD D,A, R200. -/
  | ldDA
  /-- 58: LD E,B, R200. -/
  | ldEB
  /-- 59: LD E,C, R200. -/
  | ldEC
  /-- 5A: LD E,D, R200. -/
  | ldED
  /-- 5B: LD E,E, R200. -/
  | ldEE
  /-- 5C: LD E,H, R200. -/
  | ldEH
  /-- 5D: LD E,L, R200. -/
  | ldEL
  /-- 5E: LD E,(HL), R202. -/
  | ldEAtHl
  /-- 5F: LD E,A, R200. -/
  | ldEA
  /-- 60: LD H,B, R200. -/
  | ldHB
  /-- 61: LD H,C, R200. -/
  | ldHC
  /-- 62: LD H,D, R200. -/
  | ldHD
  /-- 63: LD H,E, R200. -/
  | ldHE
  /-- 64: LD H,H, R200. -/
  | ldHH
  /-- 65: LD H,L, R200. -/
  | ldHL
  /-- 66: LD H,(HL), R202. -/
  | ldHAtHl
  /-- 67: LD H,A, R200. -/
  | ldHA
  /-- 68: LD L,B, R200. -/
  | ldLB
  /-- 69: LD L,C, R200. -/
  | ldLC
  /-- 6A: LD L,D, R200. -/
  | ldLD
  /-- 6B: LD L,E, R200. -/
  | ldLE
  /-- 6C: LD L,H, R200. -/
  | ldLH
  /-- 6D: LD L,L, R200. -/
  | ldLL
  /-- 6E: LD L,(HL), R202. -/
  | ldLAtHl
  /-- 6F: LD L,A, R200. -/
  | ldLA
  /-- 70: LD (HL),B, R203. -/
  | ldAtHlB
  /-- 71: LD (HL),C, R203. -/
  | ldAtHlC
  /-- 72: LD (HL),D, R203. -/
  | ldAtHlD
  /-- 73: LD (HL),E, R203. -/
  | ldAtHlE
  /-- 74: LD (HL),H, R203. -/
  | ldAtHlH
  /-- 75: LD (HL),L, R203. -/
  | ldAtHlL
  /-- 76: HALT, R601. -/
  | halt
  /-- 77: LD (HL),A, R203. -/
  | ldAtHlA
  /-- 78: LD A,B, R200. -/
  | ldAB
  /-- 79: LD A,C, R200. -/
  | ldAC
  /-- 7A: LD A,D, R200. -/
  | ldAD
  /-- 7B: LD A,E, R200. -/
  | ldAE
  /-- 7C: LD A,H, R200. -/
  | ldAH
  /-- 7D: LD A,L, R200. -/
  | ldAL
  /-- 7E: LD A,(HL), R202. -/
  | ldAAtHl
  /-- 7F: LD A,A, R200. -/
  | ldAA
  /-- 80: ADD A,B, R300. -/
  | addAB
  /-- 81: ADD A,C, R300. -/
  | addAC
  /-- 82: ADD A,D, R300. -/
  | addAD
  /-- 83: ADD A,E, R300. -/
  | addAE
  /-- 84: ADD A,H, R300. -/
  | addAH
  /-- 85: ADD A,L, R300. -/
  | addAL
  /-- 86: ADD A,(HL), R302. -/
  | addAAtHl
  /-- 87: ADD A,A, R300. -/
  | addAA
  /-- 88: ADC A,B, R303. -/
  | adcAB
  /-- 89: ADC A,C, R303. -/
  | adcAC
  /-- 8A: ADC A,D, R303. -/
  | adcAD
  /-- 8B: ADC A,E, R303. -/
  | adcAE
  /-- 8C: ADC A,H, R303. -/
  | adcAH
  /-- 8D: ADC A,L, R303. -/
  | adcAL
  /-- 8E: ADC A,(HL), R305. -/
  | adcAAtHl
  /-- 8F: ADC A,A, R303. -/
  | adcAA
  /-- 90: SUB B, R306. -/
  | subB
  /-- 91: SUB C, R306. -/
  | subC
  /-- 92: SUB D, R306. -/
  | subD
  /-- 93: SUB E, R306. -/
  | subE
  /-- 94: SUB H, R306. -/
  | subH
  /-- 95: SUB L, R306. -/
  | subL
  /-- 96: SUB (HL), R308. -/
  | subAtHl
  /-- 97: SUB A, R306. -/
  | subA
  /-- 98: SBC A,B, R309. -/
  | sbcAB
  /-- 99: SBC A,C, R309. -/
  | sbcAC
  /-- 9A: SBC A,D, R309. -/
  | sbcAD
  /-- 9B: SBC A,E, R309. -/
  | sbcAE
  /-- 9C: SBC A,H, R309. -/
  | sbcAH
  /-- 9D: SBC A,L, R309. -/
  | sbcAL
  /-- 9E: SBC A,(HL), R311. -/
  | sbcAAtHl
  /-- 9F: SBC A,A, R309. -/
  | sbcAA
  /-- A0: AND B, R315. -/
  | andB
  /-- A1: AND C, R315. -/
  | andC
  /-- A2: AND D, R315. -/
  | andD
  /-- A3: AND E, R315. -/
  | andE
  /-- A4: AND H, R315. -/
  | andH
  /-- A5: AND L, R315. -/
  | andL
  /-- A6: AND (HL), R317. -/
  | andAtHl
  /-- A7: AND A, R315. -/
  | andA
  /-- A8: XOR B, R318. -/
  | xorB
  /-- A9: XOR C, R318. -/
  | xorC
  /-- AA: XOR D, R318. -/
  | xorD
  /-- AB: XOR E, R318. -/
  | xorE
  /-- AC: XOR H, R318. -/
  | xorH
  /-- AD: XOR L, R318. -/
  | xorL
  /-- AE: XOR (HL), R320. -/
  | xorAtHl
  /-- AF: XOR A, R318. -/
  | xorA
  /-- B0: OR B, R321. -/
  | orB
  /-- B1: OR C, R321. -/
  | orC
  /-- B2: OR D, R321. -/
  | orD
  /-- B3: OR E, R321. -/
  | orE
  /-- B4: OR H, R321. -/
  | orH
  /-- B5: OR L, R321. -/
  | orL
  /-- B6: OR (HL), R323. -/
  | orAtHl
  /-- B7: OR A, R321. -/
  | orA
  /-- B8: CP B, R324. -/
  | cpB
  /-- B9: CP C, R324. -/
  | cpC
  /-- BA: CP D, R324. -/
  | cpD
  /-- BB: CP E, R324. -/
  | cpE
  /-- BC: CP H, R324. -/
  | cpH
  /-- BD: CP L, R324. -/
  | cpL
  /-- BE: CP (HL), R326. -/
  | cpAtHl
  /-- BF: CP A, R324. -/
  | cpA
  /-- C0: RET NZ, R558. -/
  | retNz
  /-- C1: POP BC, R253. -/
  | popBc
  /-- C5: PUSH BC, R252. -/
  | pushBc
  /-- C7: RST 00H, R560. -/
  | rst00
  /-- C8: RET Z, R558. -/
  | retZ
  /-- C9: RET, R557. -/
  | ret
  /-- CB: PREFIX CB, R133. -/
  | prefixCb
  /-- CF: RST 08H, R560. -/
  | rst08
  /-- D0: RET NC, R558. -/
  | retNc
  /-- D1: POP DE, R253. -/
  | popDe
  /-- D3: hole, R603. -/
  | holeD3
  /-- D5: PUSH DE, R252. -/
  | pushDe
  /-- D7: RST 10H, R560. -/
  | rst10
  /-- D8: RET C, R558. -/
  | retC
  /-- D9: RETI, R559. -/
  | reti
  /-- DB: hole, R603. -/
  | holeDB
  /-- DD: hole, R603. -/
  | holeDD
  /-- DF: RST 18H, R560. -/
  | rst18
  /-- E1: POP HL, R253. -/
  | popHl
  /-- E2: LDH (C),A, R214. -/
  | ldhAtCA
  /-- E3: hole, R603. -/
  | holeE3
  /-- E4: hole, R603. -/
  | holeE4
  /-- E5: PUSH HL, R252. -/
  | pushHl
  /-- E7: RST 20H, R560. -/
  | rst20
  /-- E9: JP HL, R552. -/
  | jpHl
  /-- EB: hole, R603. -/
  | holeEB
  /-- EC: hole, R603. -/
  | holeEC
  /-- ED: hole, R603. -/
  | holeED
  /-- EF: RST 28H, R560. -/
  | rst28
  /-- F1: POP AF, R255. -/
  | popAf
  /-- F2: LDH A,(C), R213. -/
  | ldhAAtC
  /-- F3: DI, R604. -/
  | di
  /-- F4: hole, R603. -/
  | holeF4
  /-- F5: PUSH AF, R252. -/
  | pushAf
  /-- F7: RST 30H, R560. -/
  | rst30
  /-- F9: LD SP,HL, R251. -/
  | ldSpHl
  /-- FB: EI, R605. -/
  | ei
  /-- FC: hole, R603. -/
  | holeFC
  /-- FD: hole, R603. -/
  | holeFD
  /-- FF: RST 38H, R560. -/
  | rst38
  /-- CB 00: RLC B, R500. -/
  | rlcB
  /-- CB 01: RLC C, R500. -/
  | rlcC
  /-- CB 02: RLC D, R500. -/
  | rlcD
  /-- CB 03: RLC E, R500. -/
  | rlcE
  /-- CB 04: RLC H, R500. -/
  | rlcH
  /-- CB 05: RLC L, R500. -/
  | rlcL
  /-- CB 06: RLC (HL), R500. -/
  | rlcAtHl
  /-- CB 07: RLC A, R500. -/
  | rlcA
  /-- CB 08: RRC B, R501. -/
  | rrcB
  /-- CB 09: RRC C, R501. -/
  | rrcC
  /-- CB 0A: RRC D, R501. -/
  | rrcD
  /-- CB 0B: RRC E, R501. -/
  | rrcE
  /-- CB 0C: RRC H, R501. -/
  | rrcH
  /-- CB 0D: RRC L, R501. -/
  | rrcL
  /-- CB 0E: RRC (HL), R501. -/
  | rrcAtHl
  /-- CB 0F: RRC A, R501. -/
  | rrcA
  /-- CB 10: RL B, R502. -/
  | rlB
  /-- CB 11: RL C, R502. -/
  | rlC
  /-- CB 12: RL D, R502. -/
  | rlD
  /-- CB 13: RL E, R502. -/
  | rlE
  /-- CB 14: RL H, R502. -/
  | rlH
  /-- CB 15: RL L, R502. -/
  | rlL
  /-- CB 16: RL (HL), R502. -/
  | rlAtHl
  /-- CB 17: RL A, R502. -/
  | rlA
  /-- CB 18: RR B, R503. -/
  | rrB
  /-- CB 19: RR C, R503. -/
  | rrC
  /-- CB 1A: RR D, R503. -/
  | rrD
  /-- CB 1B: RR E, R503. -/
  | rrE
  /-- CB 1C: RR H, R503. -/
  | rrH
  /-- CB 1D: RR L, R503. -/
  | rrL
  /-- CB 1E: RR (HL), R503. -/
  | rrAtHl
  /-- CB 1F: RR A, R503. -/
  | rrA
  /-- CB 20: SLA B, R504. -/
  | slaB
  /-- CB 21: SLA C, R504. -/
  | slaC
  /-- CB 22: SLA D, R504. -/
  | slaD
  /-- CB 23: SLA E, R504. -/
  | slaE
  /-- CB 24: SLA H, R504. -/
  | slaH
  /-- CB 25: SLA L, R504. -/
  | slaL
  /-- CB 26: SLA (HL), R504. -/
  | slaAtHl
  /-- CB 27: SLA A, R504. -/
  | slaA
  /-- CB 28: SRA B, R505. -/
  | sraB
  /-- CB 29: SRA C, R505. -/
  | sraC
  /-- CB 2A: SRA D, R505. -/
  | sraD
  /-- CB 2B: SRA E, R505. -/
  | sraE
  /-- CB 2C: SRA H, R505. -/
  | sraH
  /-- CB 2D: SRA L, R505. -/
  | sraL
  /-- CB 2E: SRA (HL), R505. -/
  | sraAtHl
  /-- CB 2F: SRA A, R505. -/
  | sraA
  /-- CB 30: SWAP B, R506. -/
  | swapB
  /-- CB 31: SWAP C, R506. -/
  | swapC
  /-- CB 32: SWAP D, R506. -/
  | swapD
  /-- CB 33: SWAP E, R506. -/
  | swapE
  /-- CB 34: SWAP H, R506. -/
  | swapH
  /-- CB 35: SWAP L, R506. -/
  | swapL
  /-- CB 36: SWAP (HL), R506. -/
  | swapAtHl
  /-- CB 37: SWAP A, R506. -/
  | swapA
  /-- CB 38: SRL B, R507. -/
  | srlB
  /-- CB 39: SRL C, R507. -/
  | srlC
  /-- CB 3A: SRL D, R507. -/
  | srlD
  /-- CB 3B: SRL E, R507. -/
  | srlE
  /-- CB 3C: SRL H, R507. -/
  | srlH
  /-- CB 3D: SRL L, R507. -/
  | srlL
  /-- CB 3E: SRL (HL), R507. -/
  | srlAtHl
  /-- CB 3F: SRL A, R507. -/
  | srlA
  /-- CB 40: BIT 0,B, R510. -/
  | bit0B
  /-- CB 41: BIT 0,C, R510. -/
  | bit0C
  /-- CB 42: BIT 0,D, R510. -/
  | bit0D
  /-- CB 43: BIT 0,E, R510. -/
  | bit0E
  /-- CB 44: BIT 0,H, R510. -/
  | bit0H
  /-- CB 45: BIT 0,L, R510. -/
  | bit0L
  /-- CB 46: BIT 0,(HL), R510. -/
  | bit0AtHl
  /-- CB 47: BIT 0,A, R510. -/
  | bit0A
  /-- CB 48: BIT 1,B, R510. -/
  | bit1B
  /-- CB 49: BIT 1,C, R510. -/
  | bit1C
  /-- CB 4A: BIT 1,D, R510. -/
  | bit1D
  /-- CB 4B: BIT 1,E, R510. -/
  | bit1E
  /-- CB 4C: BIT 1,H, R510. -/
  | bit1H
  /-- CB 4D: BIT 1,L, R510. -/
  | bit1L
  /-- CB 4E: BIT 1,(HL), R510. -/
  | bit1AtHl
  /-- CB 4F: BIT 1,A, R510. -/
  | bit1A
  /-- CB 50: BIT 2,B, R510. -/
  | bit2B
  /-- CB 51: BIT 2,C, R510. -/
  | bit2C
  /-- CB 52: BIT 2,D, R510. -/
  | bit2D
  /-- CB 53: BIT 2,E, R510. -/
  | bit2E
  /-- CB 54: BIT 2,H, R510. -/
  | bit2H
  /-- CB 55: BIT 2,L, R510. -/
  | bit2L
  /-- CB 56: BIT 2,(HL), R510. -/
  | bit2AtHl
  /-- CB 57: BIT 2,A, R510. -/
  | bit2A
  /-- CB 58: BIT 3,B, R510. -/
  | bit3B
  /-- CB 59: BIT 3,C, R510. -/
  | bit3C
  /-- CB 5A: BIT 3,D, R510. -/
  | bit3D
  /-- CB 5B: BIT 3,E, R510. -/
  | bit3E
  /-- CB 5C: BIT 3,H, R510. -/
  | bit3H
  /-- CB 5D: BIT 3,L, R510. -/
  | bit3L
  /-- CB 5E: BIT 3,(HL), R510. -/
  | bit3AtHl
  /-- CB 5F: BIT 3,A, R510. -/
  | bit3A
  /-- CB 60: BIT 4,B, R510. -/
  | bit4B
  /-- CB 61: BIT 4,C, R510. -/
  | bit4C
  /-- CB 62: BIT 4,D, R510. -/
  | bit4D
  /-- CB 63: BIT 4,E, R510. -/
  | bit4E
  /-- CB 64: BIT 4,H, R510. -/
  | bit4H
  /-- CB 65: BIT 4,L, R510. -/
  | bit4L
  /-- CB 66: BIT 4,(HL), R510. -/
  | bit4AtHl
  /-- CB 67: BIT 4,A, R510. -/
  | bit4A
  /-- CB 68: BIT 5,B, R510. -/
  | bit5B
  /-- CB 69: BIT 5,C, R510. -/
  | bit5C
  /-- CB 6A: BIT 5,D, R510. -/
  | bit5D
  /-- CB 6B: BIT 5,E, R510. -/
  | bit5E
  /-- CB 6C: BIT 5,H, R510. -/
  | bit5H
  /-- CB 6D: BIT 5,L, R510. -/
  | bit5L
  /-- CB 6E: BIT 5,(HL), R510. -/
  | bit5AtHl
  /-- CB 6F: BIT 5,A, R510. -/
  | bit5A
  /-- CB 70: BIT 6,B, R510. -/
  | bit6B
  /-- CB 71: BIT 6,C, R510. -/
  | bit6C
  /-- CB 72: BIT 6,D, R510. -/
  | bit6D
  /-- CB 73: BIT 6,E, R510. -/
  | bit6E
  /-- CB 74: BIT 6,H, R510. -/
  | bit6H
  /-- CB 75: BIT 6,L, R510. -/
  | bit6L
  /-- CB 76: BIT 6,(HL), R510. -/
  | bit6AtHl
  /-- CB 77: BIT 6,A, R510. -/
  | bit6A
  /-- CB 78: BIT 7,B, R510. -/
  | bit7B
  /-- CB 79: BIT 7,C, R510. -/
  | bit7C
  /-- CB 7A: BIT 7,D, R510. -/
  | bit7D
  /-- CB 7B: BIT 7,E, R510. -/
  | bit7E
  /-- CB 7C: BIT 7,H, R510. -/
  | bit7H
  /-- CB 7D: BIT 7,L, R510. -/
  | bit7L
  /-- CB 7E: BIT 7,(HL), R510. -/
  | bit7AtHl
  /-- CB 7F: BIT 7,A, R510. -/
  | bit7A
  /-- CB 80: RES 0,B, R511. -/
  | res0B
  /-- CB 81: RES 0,C, R511. -/
  | res0C
  /-- CB 82: RES 0,D, R511. -/
  | res0D
  /-- CB 83: RES 0,E, R511. -/
  | res0E
  /-- CB 84: RES 0,H, R511. -/
  | res0H
  /-- CB 85: RES 0,L, R511. -/
  | res0L
  /-- CB 86: RES 0,(HL), R511. -/
  | res0AtHl
  /-- CB 87: RES 0,A, R511. -/
  | res0A
  /-- CB 88: RES 1,B, R511. -/
  | res1B
  /-- CB 89: RES 1,C, R511. -/
  | res1C
  /-- CB 8A: RES 1,D, R511. -/
  | res1D
  /-- CB 8B: RES 1,E, R511. -/
  | res1E
  /-- CB 8C: RES 1,H, R511. -/
  | res1H
  /-- CB 8D: RES 1,L, R511. -/
  | res1L
  /-- CB 8E: RES 1,(HL), R511. -/
  | res1AtHl
  /-- CB 8F: RES 1,A, R511. -/
  | res1A
  /-- CB 90: RES 2,B, R511. -/
  | res2B
  /-- CB 91: RES 2,C, R511. -/
  | res2C
  /-- CB 92: RES 2,D, R511. -/
  | res2D
  /-- CB 93: RES 2,E, R511. -/
  | res2E
  /-- CB 94: RES 2,H, R511. -/
  | res2H
  /-- CB 95: RES 2,L, R511. -/
  | res2L
  /-- CB 96: RES 2,(HL), R511. -/
  | res2AtHl
  /-- CB 97: RES 2,A, R511. -/
  | res2A
  /-- CB 98: RES 3,B, R511. -/
  | res3B
  /-- CB 99: RES 3,C, R511. -/
  | res3C
  /-- CB 9A: RES 3,D, R511. -/
  | res3D
  /-- CB 9B: RES 3,E, R511. -/
  | res3E
  /-- CB 9C: RES 3,H, R511. -/
  | res3H
  /-- CB 9D: RES 3,L, R511. -/
  | res3L
  /-- CB 9E: RES 3,(HL), R511. -/
  | res3AtHl
  /-- CB 9F: RES 3,A, R511. -/
  | res3A
  /-- CB A0: RES 4,B, R511. -/
  | res4B
  /-- CB A1: RES 4,C, R511. -/
  | res4C
  /-- CB A2: RES 4,D, R511. -/
  | res4D
  /-- CB A3: RES 4,E, R511. -/
  | res4E
  /-- CB A4: RES 4,H, R511. -/
  | res4H
  /-- CB A5: RES 4,L, R511. -/
  | res4L
  /-- CB A6: RES 4,(HL), R511. -/
  | res4AtHl
  /-- CB A7: RES 4,A, R511. -/
  | res4A
  /-- CB A8: RES 5,B, R511. -/
  | res5B
  /-- CB A9: RES 5,C, R511. -/
  | res5C
  /-- CB AA: RES 5,D, R511. -/
  | res5D
  /-- CB AB: RES 5,E, R511. -/
  | res5E
  /-- CB AC: RES 5,H, R511. -/
  | res5H
  /-- CB AD: RES 5,L, R511. -/
  | res5L
  /-- CB AE: RES 5,(HL), R511. -/
  | res5AtHl
  /-- CB AF: RES 5,A, R511. -/
  | res5A
  /-- CB B0: RES 6,B, R511. -/
  | res6B
  /-- CB B1: RES 6,C, R511. -/
  | res6C
  /-- CB B2: RES 6,D, R511. -/
  | res6D
  /-- CB B3: RES 6,E, R511. -/
  | res6E
  /-- CB B4: RES 6,H, R511. -/
  | res6H
  /-- CB B5: RES 6,L, R511. -/
  | res6L
  /-- CB B6: RES 6,(HL), R511. -/
  | res6AtHl
  /-- CB B7: RES 6,A, R511. -/
  | res6A
  /-- CB B8: RES 7,B, R511. -/
  | res7B
  /-- CB B9: RES 7,C, R511. -/
  | res7C
  /-- CB BA: RES 7,D, R511. -/
  | res7D
  /-- CB BB: RES 7,E, R511. -/
  | res7E
  /-- CB BC: RES 7,H, R511. -/
  | res7H
  /-- CB BD: RES 7,L, R511. -/
  | res7L
  /-- CB BE: RES 7,(HL), R511. -/
  | res7AtHl
  /-- CB BF: RES 7,A, R511. -/
  | res7A
  /-- CB C0: SET 0,B, R512. -/
  | set0B
  /-- CB C1: SET 0,C, R512. -/
  | set0C
  /-- CB C2: SET 0,D, R512. -/
  | set0D
  /-- CB C3: SET 0,E, R512. -/
  | set0E
  /-- CB C4: SET 0,H, R512. -/
  | set0H
  /-- CB C5: SET 0,L, R512. -/
  | set0L
  /-- CB C6: SET 0,(HL), R512. -/
  | set0AtHl
  /-- CB C7: SET 0,A, R512. -/
  | set0A
  /-- CB C8: SET 1,B, R512. -/
  | set1B
  /-- CB C9: SET 1,C, R512. -/
  | set1C
  /-- CB CA: SET 1,D, R512. -/
  | set1D
  /-- CB CB: SET 1,E, R512. -/
  | set1E
  /-- CB CC: SET 1,H, R512. -/
  | set1H
  /-- CB CD: SET 1,L, R512. -/
  | set1L
  /-- CB CE: SET 1,(HL), R512. -/
  | set1AtHl
  /-- CB CF: SET 1,A, R512. -/
  | set1A
  /-- CB D0: SET 2,B, R512. -/
  | set2B
  /-- CB D1: SET 2,C, R512. -/
  | set2C
  /-- CB D2: SET 2,D, R512. -/
  | set2D
  /-- CB D3: SET 2,E, R512. -/
  | set2E
  /-- CB D4: SET 2,H, R512. -/
  | set2H
  /-- CB D5: SET 2,L, R512. -/
  | set2L
  /-- CB D6: SET 2,(HL), R512. -/
  | set2AtHl
  /-- CB D7: SET 2,A, R512. -/
  | set2A
  /-- CB D8: SET 3,B, R512. -/
  | set3B
  /-- CB D9: SET 3,C, R512. -/
  | set3C
  /-- CB DA: SET 3,D, R512. -/
  | set3D
  /-- CB DB: SET 3,E, R512. -/
  | set3E
  /-- CB DC: SET 3,H, R512. -/
  | set3H
  /-- CB DD: SET 3,L, R512. -/
  | set3L
  /-- CB DE: SET 3,(HL), R512. -/
  | set3AtHl
  /-- CB DF: SET 3,A, R512. -/
  | set3A
  /-- CB E0: SET 4,B, R512. -/
  | set4B
  /-- CB E1: SET 4,C, R512. -/
  | set4C
  /-- CB E2: SET 4,D, R512. -/
  | set4D
  /-- CB E3: SET 4,E, R512. -/
  | set4E
  /-- CB E4: SET 4,H, R512. -/
  | set4H
  /-- CB E5: SET 4,L, R512. -/
  | set4L
  /-- CB E6: SET 4,(HL), R512. -/
  | set4AtHl
  /-- CB E7: SET 4,A, R512. -/
  | set4A
  /-- CB E8: SET 5,B, R512. -/
  | set5B
  /-- CB E9: SET 5,C, R512. -/
  | set5C
  /-- CB EA: SET 5,D, R512. -/
  | set5D
  /-- CB EB: SET 5,E, R512. -/
  | set5E
  /-- CB EC: SET 5,H, R512. -/
  | set5H
  /-- CB ED: SET 5,L, R512. -/
  | set5L
  /-- CB EE: SET 5,(HL), R512. -/
  | set5AtHl
  /-- CB EF: SET 5,A, R512. -/
  | set5A
  /-- CB F0: SET 6,B, R512. -/
  | set6B
  /-- CB F1: SET 6,C, R512. -/
  | set6C
  /-- CB F2: SET 6,D, R512. -/
  | set6D
  /-- CB F3: SET 6,E, R512. -/
  | set6E
  /-- CB F4: SET 6,H, R512. -/
  | set6H
  /-- CB F5: SET 6,L, R512. -/
  | set6L
  /-- CB F6: SET 6,(HL), R512. -/
  | set6AtHl
  /-- CB F7: SET 6,A, R512. -/
  | set6A
  /-- CB F8: SET 7,B, R512. -/
  | set7B
  /-- CB F9: SET 7,C, R512. -/
  | set7C
  /-- CB FA: SET 7,D, R512. -/
  | set7D
  /-- CB FB: SET 7,E, R512. -/
  | set7E
  /-- CB FC: SET 7,H, R512. -/
  | set7H
  /-- CB FD: SET 7,L, R512. -/
  | set7L
  /-- CB FE: SET 7,(HL), R512. -/
  | set7AtHl
  /-- CB FF: SET 7,A, R512. -/
  | set7A
  deriving DecidableEq, Repr

end Sys2Proof
end

