-- ==== Sys2Proof/Machine/Flags.lean ====
section
/-! DEFINITION. The results and flags of the arithmetic, logic, rotate and bit operations, as functions of bytes and words. Sums
and differences are computed exactly on natural numbers and narrowed at the end, as the rules do with their wider intermediates. -/

namespace Sys2Proof.Machine

/-- The byte F with the four flags at their places (10_state.md R39) and bits 3 to 0 zero (R32). -/
def flagByte (z n h c : Bool) : Byte :=
  (if z then 0x80 else 0) ||| (if n then 0x40 else 0) ||| (if h then 0x20 else 0) ||| (if c then 0x10 else 0)

/-- A result with its carries; Zero is always `r = 0`. -/
structure ByteResult where
  r : Byte
  h : Bool
  c : Bool
  deriving DecidableEq, Repr

/-- A 16-bit result with its carries. -/
structure WordResult where
  r : Word
  h : Bool
  c : Bool
  deriving DecidableEq, Repr

/-- Zero of a result. -/
def isZero (r : Byte) : Bool := r == 0

/-- `Add8(a, b, cin)` (42_alu8.md R312). -/
def add8 (a b : Byte) (cin : Bool) : ByteResult where
  r := BitVec.ofNat 8 (a.toNat + b.toNat + cin.toNat)
  h := decide (0x0F < a.toNat % 16 + b.toNat % 16 + cin.toNat)
  c := decide (0xFF < a.toNat + b.toNat + cin.toNat)

/-- `Sub8(a, b, cin)` (R313). -/
def sub8 (a b : Byte) (cin : Bool) : ByteResult where
  r := a - b - BitVec.ofNat 8 cin.toNat
  h := decide (a.toNat % 16 < b.toNat % 16 + cin.toNat)
  c := decide (a.toNat < b.toNat + cin.toNat)

/-- AND, XOR and OR clear the carry; only AND sets the half-carry (R315, R318, R321). -/
def logic8 (r : Byte) (h : Bool) : ByteResult where
  r := r
  h := h
  c := false

/-- The ALU column (R300 to R326): the result of an operation on A and its operand, with the carry read from F. CP's result is the
difference that it does not write. -/
def aluResult (op : AluOp) (a v : Byte) (cf : Bool) : ByteResult :=
  match op with
  | .add => add8 a v false
  | .adc => add8 a v cf
  | .sub => sub8 a v false
  | .sbc => sub8 a v cf
  | .and => logic8 (a &&& v) true
  | .xor => logic8 (a ^^^ v) false
  | .or => logic8 (a ||| v) false
  | .cp => sub8 a v false

/-- Subtract/Negative after an ALU operation (R40): set by SUB, SBC and CP. -/
def aluSubtracts : AluOp → Bool
  | .sub => true
  | .sbc => true
  | .cp => true
  | _ => false

/-- The half-carry of INC: the low nibble was 0xF (R330). -/
def incHalf (v : Byte) : Bool := v &&& 0x0F == 0x0F

/-- The half-carry of DEC: the low nibble was 0 (R332). -/
def decHalf (v : Byte) : Bool := v &&& 0x0F == 0x00

/-- ADD HL,rr: the carries out of bits 11 and 15 (43_alu16.md R402). -/
def add16 (a b : Word) : WordResult where
  r := BitVec.ofNat 16 (a.toNat + b.toNat)
  h := decide (0x0FFF < a.toNat % 4096 + b.toNat % 4096)
  c := decide (0xFFFF < a.toNat + b.toNat)

/-- sp plus a signed displacement; the carries are those of the unsigned addition of the low byte (41_load16_stack.md R257,
43_alu16.md R403). -/
def addDisplacement (sp : Word) (e : Byte) : WordResult where
  r := sp + sext16 e
  h := decide (0x0F < sp.toNat % 16 + e.toNat % 16)
  c := decide (0xFF < (lo8 sp).toNat + e.toNat)

/-- The CB rotates, shifts and SWAP (45_cb_bitops.md R500 to R507): the result and the bit that goes to the carry. -/
def rotResult (op : RotOp) (v : Byte) (cf : Bool) : Byte × Bool :=
  match op with
  | .rlc => ((v <<< 1) ||| (v >>> 7), v.getLsbD 7)
  | .rrc => ((v >>> 1) ||| (v <<< 7), v.getLsbD 0)
  | .rl => ((v <<< 1) ||| (if cf then 0x01 else 0x00), v.getLsbD 7)
  | .rr => ((v >>> 1) ||| (if cf then 0x80 else 0x00), v.getLsbD 0)
  | .sla => (v <<< 1, v.getLsbD 7)
  | .sra => ((v >>> 1) ||| (v &&& 0x80), v.getLsbD 0)
  | .swap => ((v <<< 4) ||| (v >>> 4), false)
  | .srl => (v >>> 1, v.getLsbD 0)

/-- The A rotates RLCA, RRCA, RLA and RRA (44_rotate_misc.md R450 to R453): result and carry. -/
def rlcaResult (a : Byte) : Byte × Bool := ((a <<< 1) ||| (a >>> 7), a.getLsbD 7)

/-- RRCA (R451). -/
def rrcaResult (a : Byte) : Byte × Bool := ((a >>> 1) ||| (a <<< 7), a.getLsbD 0)

/-- RLA (R452). -/
def rlaResult (a : Byte) (cf : Bool) : Byte × Bool := ((a <<< 1) ||| (if cf then 0x01 else 0x00), a.getLsbD 7)

/-- RRA (R453). -/
def rraResult (a : Byte) (cf : Bool) : Byte × Bool := ((a >>> 1) ||| (if cf then 0x80 else 0x00), a.getLsbD 0)

/-- DAA (R454): the adjusted accumulator and the carry. -/
def daaResult (a : Byte) (nf hf cf : Bool) : Byte × Bool :=
  if nf then
    let a1 := if cf then a - 0x60 else a
    let a2 := if hf then a1 - 0x06 else a1
    (a2, cf)
  else
    let high := cf || decide (0x99 < a.toNat)
    let a1 := if high then a + 0x60 else a
    let a2 := if hf || decide (0x09 < a1.toNat % 16) then a1 + 0x06 else a1
    (a2, high)

/-- The byte with only bit b set. -/
def bitMask (b : Oct) : Byte :=
  match b with
  | .o0 => 0x01
  | .o1 => 0x02
  | .o2 => 0x04
  | .o3 => 0x08
  | .o4 => 0x10
  | .o5 => 0x20
  | .o6 => 0x40
  | .o7 => 0x80

/-- Zero after BIT b: the tested bit is 0 (45_cb_bitops.md R510). -/
def bitIsClear (v : Byte) (b : Oct) : Bool := v &&& bitMask b == 0

/-- RES b (R511). -/
def clearBit (v : Byte) (b : Oct) : Byte := v &&& ~~~(bitMask b)

/-- SET b (R512). -/
def setBit (v : Byte) (b : Oct) : Byte := v ||| bitMask b

/-- The address `t * 8` of RST (46_control.md R560). -/
def rstTarget (t : Oct) : Word :=
  match t with
  | .o0 => 0x0000
  | .o1 => 0x0008
  | .o2 => 0x0010
  | .o3 => 0x0018
  | .o4 => 0x0020
  | .o5 => 0x0028
  | .o6 => 0x0030
  | .o7 => 0x0038

end Sys2Proof.Machine
end

