-- ==== Sys2Proof/Machine/State.lean ====
section
/-! DEFINITION. The state of the core as plain data (10_state.md R30 to R50), its state after reset (R48, 70_reset_and_hazards.md
R800), and the reasons a step could stop (none of them is raised by a step of this spec). -/

namespace Sys2Proof.Machine

/-- The run-state machine (10_state.md R44, 60_exceptions.md R708). -/
inductive RunState where
  | running
  | halted
  | stopped
  deriving DecidableEq, Repr

/-- The kinds of an error record (60_exceptions.md R700). Code 3, AddressingFault, is reserved and never raised (R703); the
reserved codes 4 to 255 name no kind (93_implementation_defined.md U11). -/
inductive ErrorKind where
  | decodeFailure
  | unimplemented
  | addressingFault
  deriving DecidableEq, Repr

/-- An error record (kind, byte, pc) (R45, R700). -/
structure ErrorRecord where
  kind : ErrorKind
  byte : Byte
  pc   : Word
  deriving DecidableEq, Repr

/-- A value of the interrupt-request input: none, or one of the five indices 0 to 4 (R712). -/
abbrev IrqRequest := Option (Fin 5)

/-- The draws of the two inputs at one boundary: the interrupt request (R712) and the stop input (R711). -/
structure BoundaryDraw where
  irq  : IrqRequest
  stop : Bool
  deriving DecidableEq, Repr

/-- The draw of a boundary at which nothing is requested. -/
def BoundaryDraw.quiet : BoundaryDraw := ⟨none, false⟩

/-- The state of the core. `mem` lists (address, byte) pairs in canonical form (`Memory.wf`): an address not listed reads 0
(R81, R89). `params`, `inputs` and `boundaries` are the model's own fields: the parameters of the run, which no step writes (R8, R10,
R49); the draws of the coming boundaries as far as the state fixes them, oldest first (R711, R712); and the number of boundaries so far,
which numbers the free draw of a boundary that `inputs` does not fix (30_encoding.md R147; assumption log 2). -/
structure State where
  params     : Params
  a          : Byte
  f          : Byte
  b          : Byte
  c          : Byte
  d          : Byte
  e          : Byte
  h          : Byte
  l          : Byte
  sp         : Word
  pc         : Word
  ime        : Bool
  imePending : Bool
  haltBug    : Bool
  runState   : RunState
  lastError  : Option ErrorRecord
  irqNow     : IrqRequest
  irqAck     : IrqRequest
  inputs     : List BoundaryDraw
  boundaries : Nat
  mem        : List Host.Cell
  deriving DecidableEq, Repr

/-- Reasons for a step to stop with a fault. No step raises one: every address is backed by memory and no access is checked
(20_memory.md R87, R91; 60_exceptions.md R703, R707). The errors of R700 are effects of a next state, not faults. -/
inductive Fault where
  /-- AddressingFault, the kind the spec reserves for a later mapped memory (R703, 93_implementation_defined.md U4). Nobody raises
  it. Safe: it is never an outcome. -/
  | addressingFault (addr : Word)
  deriving DecidableEq, Repr

/-- Reasons for a refusal. -/
inductive Refusal where
  /-- An instruction without a meaning, raised only by an arm of `exec` that rejects its instruction by name. This model has no
  such arm. Safe: the model stops where the core goes on. -/
  | notModelled (mnemonic : String)
  /-- The answer NotRunning of the host's Execute outside Running (30_encoding.md R141, U12), raised by `hostExecute` only, never by
  a step. Safe: the call changes nothing. -/
  | notRunning
  deriving DecidableEq, Repr

/-- The outcome of a step or of a handler. -/
abbrev Result := Host.Outcome State Fault Refusal

/-- The state after reset, for given parameters: every piece at the value of R48's table. `irqNow` and `irqAck` have no value
there (DESIGN CHOICE, assumption log 4), nor have the model's own `inputs` and `boundaries` (assumption log 2). -/
def State.resetWith (p : Params) : State where
  params := p
  a := 0x00
  f := 0x00
  b := 0x00
  c := 0x00
  d := 0x00
  e := 0x00
  h := 0x00
  l := 0x00
  sp := 0x0000
  pc := 0x0000
  ime := false
  imePending := false
  haltBug := false
  runState := .running
  lastError := none
  irqNow := none
  irqAck := none
  inputs := []
  boundaries := 0
  mem := []

/-- The state right after reset, under FULL and BE (assumption log 1). -/
def State.reset : State := State.resetWith Params.standard

end Sys2Proof.Machine
end

