-- ==== Sys2Proof/Machine/Ops.lean ====
section
/-! DEFINITION. The named operations over memory and registers, the stack primitives, and the three shared state changes that are
no instruction of their own: raising an error, entering an interrupt, and returning from one. -/

namespace Sys2Proof.Machine

/-! ## Memory (20_memory.md) -/

/-- What an address that is not listed reads as: the reset contents of R81. -/
def unlistedByte : Byte := 0x00

/-- The byte at an address of the memory image. -/
def memRead : List Host.Cell → Nat → Byte
  | [], _ => unlistedByte
  | cell :: rest, addr => if cell.1 = addr then cell.2 else memRead rest addr

/-- Put an entry before the first entry of a higher address. -/
def memInsert (addr : Nat) (v : Byte) : List Host.Cell → List Host.Cell
  | [] => [(addr, v)]
  | cell :: rest => if addr < cell.1 then (addr, v) :: cell :: rest else cell :: memInsert addr v rest

/-- Remove every entry of an address. -/
def memErase (mem : List Host.Cell) (addr : Nat) : List Host.Cell :=
  mem.filter fun cell => cell.1 ≠ addr

/-- Write a byte, keeping the canonical form: the value an unlisted address reads as is not listed. -/
def memWrite (mem : List Host.Cell) (addr : Nat) (v : Byte) : List Host.Cell :=
  if v = unlistedByte then memErase mem addr else memInsert addr v (memErase mem addr)

/-- The canonical form of a memory: addresses strictly rising and inside the 64 KiB space, no entry that an unlisted address would
give anyway. -/
abbrev Memory.wf (mem : List Host.Cell) : Prop :=
  mem.Pairwise (fun x y => x.1 < y.1) ∧ ∀ cell ∈ mem, cell.1 < 65536 ∧ cell.2 ≠ unlistedByte

/-- `MemRead(addr, 1)` (R82). -/
def State.readByte (s : State) (addr : Word) : Byte := memRead s.mem addr.toNat

/-- `MemWrite(addr, 1, v)` (R83). -/
def State.writeByte (s : State) (addr : Word) (v : Byte) : State :=
  { s with mem := memWrite s.mem addr.toNat v }

/-- `MemReadWord(addr)` (R84): the byte at addr and the byte at addr + 1 modulo 65536, in WORD_ORDER. -/
def State.readWord (s : State) (addr : Word) : Word :=
  wordOfBytes s.params.wordOrder (s.readByte addr) (s.readByte (addr + 1))

/-- `MemWriteWord(addr, v)` (R85): the byte at addr first, then the byte at addr + 1 modulo 65536. -/
def State.writeWord (s : State) (addr : Word) (v : Word) : State :=
  (s.writeByte addr (firstByte s.params.wordOrder v)).writeByte (addr + 1) (secondByte s.params.wordOrder v)

/-! ## Registers (10_state.md R30 to R37) -/

/-- A register operand (R30, R123). -/
def State.reg (s : State) : Reg8 → Byte
  | .b => s.b
  | .c => s.c
  | .d => s.d
  | .e => s.e
  | .h => s.h
  | .l => s.l
  | .a => s.a

/-- Write a register operand. -/
def State.setReg (s : State) (r : Reg8) (v : Byte) : State :=
  match r with
  | .b => { s with b := v }
  | .c => { s with c := v }
  | .d => { s with d := v }
  | .e => { s with e := v }
  | .h => { s with h := v }
  | .l => { s with l := v }
  | .a => { s with a := v }

/-- F as it reads: bits 3 to 0 are hardwired to 0 (R32). -/
def State.flagReg (s : State) : Byte := s.f &&& 0xF0

/-- Write F: bits 3 to 0 are discarded (R32). -/
def State.setFlagReg (s : State) (v : Byte) : State := { s with f := v &&& 0xF0 }

/-- BC (R33). -/
def State.bc (s : State) : Word := joinBytes s.b s.c

/-- DE (R33). -/
def State.de (s : State) : Word := joinBytes s.d s.e

/-- HL (R33). -/
def State.hl (s : State) : Word := joinBytes s.h s.l

/-- AF: A high, F low (R34). -/
def State.af (s : State) : Word := joinBytes s.a s.flagReg

/-- `HL <- v` (R33). -/
def State.setHl (s : State) (v : Word) : State := { s with h := hi8 v, l := lo8 v }

/-- A pair of `rp` (R35). -/
def State.pair (s : State) : Pair → Word
  | .bc => s.bc
  | .de => s.de
  | .hl => s.hl
  | .sp => s.sp

/-- Write a pair of `rp`. -/
def State.setPair (s : State) (p : Pair) (v : Word) : State :=
  match p with
  | .bc => { s with b := hi8 v, c := lo8 v }
  | .de => { s with d := hi8 v, e := lo8 v }
  | .hl => s.setHl v
  | .sp => { s with sp := v }

/-- A pair of `rp2` (R35). -/
def State.stackPair (s : State) : StackPair → Word
  | .bc => s.bc
  | .de => s.de
  | .hl => s.hl
  | .af => s.af

/-- Write a pair of `rp2`; the low byte of AF goes through F's write, which drops bits 3 to 0 (R34). -/
def State.setStackPair (s : State) (p : StackPair) (v : Word) : State :=
  match p with
  | .bc => { s with b := hi8 v, c := lo8 v }
  | .de => { s with d := hi8 v, e := lo8 v }
  | .hl => s.setHl v
  | .af => { s.setFlagReg (lo8 v) with a := hi8 v }

/-! ## Flags (R39): the four bits of F -/

/-- Zero, bit 7. -/
def State.zf (s : State) : Bool := s.f.getLsbD 7

/-- Subtract/Negative, bit 6. -/
def State.nf (s : State) : Bool := s.f.getLsbD 6

/-- Half-Carry, bit 5. -/
def State.hf (s : State) : Bool := s.f.getLsbD 5

/-- Carry, bit 4. -/
def State.cf (s : State) : Bool := s.f.getLsbD 4

/-- `flags(z, n, h, c)`: all four at once, F[3:0] cleared (00_scope.md R14). An unchanged position is given its old value. -/
def State.setFlags (s : State) (z n h c : Bool) : State := { s with f := flagByte z n h c }

/-- `cond(cc)` (R41). -/
def State.cond (s : State) : Cond → Bool
  | .nz => !s.zf
  | .z => s.zf
  | .nc => !s.cf
  | .c => s.cf

/-! ## The program counter and the immediates -/

/-- Advance pc past `n` bytes, modulo 65536 (R36, R38). -/
def State.advance (s : State) (n : Nat) : State := { s with pc := s.pc + BitVec.ofNat 16 n }

/-- `FetchImm8()` (20_memory.md R97): the byte at pc, and pc advanced by 1. -/
def State.fetchImm8 (s : State) : Byte × State := (s.readByte s.pc, s.advance 1)

/-- `FetchImm16()` (R97): the MMU word at pc, and pc advanced by 2. -/
def State.fetchImm16 (s : State) : Word × State := (s.readWord s.pc, s.advance 2)

/-- `pc <- target` (R14). -/
def State.jump (s : State) (target : Word) : State := { s with pc := target }

/-! ## The stack primitives -/

/-- `Push16(v)` (R95): sp down by 2, then the high byte at sp + 1, then the low byte at sp, under both values of WORD_ORDER. -/
def State.push16 (s : State) (v : Word) : State :=
  let t : State := { s with sp := s.sp - 2 }
  (t.writeByte (t.sp + 1) (hi8 v)).writeByte t.sp (lo8 v)

/-- The word `Pop16()` reads: low byte at sp, high byte at sp + 1 (R96). -/
def State.stackTop (s : State) : Word := joinBytes (s.readByte (s.sp + 1)) (s.readByte s.sp)

/-- `Pop16()` (R96): the word at sp, and sp up by 2. -/
def State.pop16 (s : State) : Word × State := (s.stackTop, { s with sp := s.sp + 2 })

/-! ## Errors, interrupt entry and return (60_exceptions.md) -/

/-- `run_state <- r` (60_exceptions.md R708). -/
def State.setRunState (s : State) (r : RunState) : State := { s with runState := r }

/-- `Error(kind, byte, pc0)` with pc0 the current pc, which an error leaves at the opcode (R704): last_error is recorded and the core
stops; nothing else changes. -/
def State.raiseError (s : State) (kind : ErrorKind) (byte : Byte) : State :=
  { s with lastError := some ⟨kind, byte, s.pc⟩, runState := .stopped }

/-- The address an interrupt entry goes to (R714): 0x0040, 0x0048, 0x0050, 0x0058, 0x0060. -/
def interruptVector (k : Fin 5) : Word := 0x0040 + 8 * BitVec.ofNat 16 k.val

/-- `InterruptEntry(k)` (R714): IME and ime_pending cleared, pc pushed, pc at the vector, k acknowledged. -/
def State.interruptEntry (s : State) (k : Fin 5) : State :=
  { ({ s with ime := false, imePending := false }.push16 s.pc) with pc := interruptVector k, irqAck := some k }

/-- The return from an interrupt (46_control.md R559): pc popped, IME set at once, no EI pending. -/
def State.interruptReturn (s : State) : State :=
  { s.pop16.2 with pc := s.pop16.1, ime := true, imePending := false }

end Sys2Proof.Machine
end

