-- ==== Sys2Proof/Machine/Operands.lean ====
section
/-! DEFINITION. The operand forms: the 8-bit operand field and the addresses of the memory operands (30_encoding.md R124, R126;
20_memory.md R93). -/

namespace Sys2Proof.Machine

/-- `reg8[c]`: a register, or the byte at HL (R124); `Get()` of 45_cb_bitops.md. -/
def State.operand (s : State) : Operand8 → Byte
  | .reg r => s.reg r
  | .atHl => s.readByte s.hl

/-- `reg8[c] <- v` (R124); `Put(r)` of 45_cb_bitops.md. -/
def State.setOperand (s : State) (o : Operand8) (v : Byte) : State :=
  match o with
  | .reg r => s.setReg r v
  | .atHl => s.writeByte s.hl v

/-- A high-page address `0xFF00 | offset` (R126). -/
def highPage (offset : Byte) : Word := 0xFF00 ||| zext16 offset

end Sys2Proof.Machine
end

