-- ==== Sys2Proof/Machine/Alu16.lean ====
section
/-! DEFINITION. Meanings: 16-bit arithmetic (43_alu16.md R400 to R403). Each is a function of the state at
the entry of the handler, where pc is the address of the first byte after the opcode (00_scope.md R15); the immediates are the
instruction's own arguments, so a handler advances pc past them (20_memory.md R97). Every handler completes (30_encoding.md R143). -/

namespace Sys2Proof.Machine

/-- `INC rr` (R400): no flag is written. -/
def incPair (p : Pair) (s : State) : State := s.setPair p (s.pair p + 1)

/-- `DEC rr` (R401): no flag is written. -/
def decPair (p : Pair) (s : State) : State := s.setPair p (s.pair p - 1)

/-- `ADD HL,rr` (R402): Z unchanged. -/
def addHl (p : Pair) (s : State) : State :=
  (s.setHl (add16 s.hl (s.pair p)).r).setFlags s.zf false (add16 s.hl (s.pair p)).h (add16 s.hl (s.pair p)).c

/-- `ADD SP,e` (R403): Z and N cleared, H and C from the low-byte addition. -/
def addSpDisplacement (e : Byte) (s : State) : State :=
  { s.advance 1 with sp := (addDisplacement s.sp e).r }.setFlags false false (addDisplacement s.sp e).h
    (addDisplacement s.sp e).c

/-! ## One meaning per row of the opcode table -/

/-- 03 INC BC (R400). -/
def execIncBc (s : State) : Result := .next (incPair .bc s)

/-- 09 ADD HL,BC (R402). -/
def execAddHlBc (s : State) : Result := .next (addHl .bc s)

/-- 0B DEC BC (R401). -/
def execDecBc (s : State) : Result := .next (decPair .bc s)

/-- 13 INC DE (R400). -/
def execIncDe (s : State) : Result := .next (incPair .de s)

/-- 19 ADD HL,DE (R402). -/
def execAddHlDe (s : State) : Result := .next (addHl .de s)

/-- 1B DEC DE (R401). -/
def execDecDe (s : State) : Result := .next (decPair .de s)

/-- 23 INC HL (R400). -/
def execIncHl (s : State) : Result := .next (incPair .hl s)

/-- 29 ADD HL,HL (R402). -/
def execAddHlHl (s : State) : Result := .next (addHl .hl s)

/-- 2B DEC HL (R401). -/
def execDecHl (s : State) : Result := .next (decPair .hl s)

/-- 33 INC SP (R400). -/
def execIncSp (s : State) : Result := .next (incPair .sp s)

/-- 39 ADD HL,SP (R402). -/
def execAddHlSp (s : State) : Result := .next (addHl .sp s)

/-- 3B DEC SP (R401). -/
def execDecSp (s : State) : Result := .next (decPair .sp s)

/-- E8 ADD SP,e8 (R403). -/
def execAddSpE8 (e : Byte) (s : State) : Result := .next (addSpDisplacement e s)

end Sys2Proof.Machine
end

