-- ==== Sys2Proof/Machine/Alu8.lean ====
section
/-! DEFINITION. Meanings: 8-bit arithmetic and logic (42_alu8.md R300 to R333). Each is a function of the state at
the entry of the handler, where pc is the address of the first byte after the opcode (00_scope.md R15); the immediates are the
instruction's own arguments, so a handler advances pc past them (20_memory.md R97). Every handler completes (30_encoding.md R143). -/

namespace Sys2Proof.Machine

/-- Write the result of an ALU operation to A; CP writes none (R324). -/
def writeAluResult (op : AluOp) (r : Byte) (s : State) : State :=
  match op with
  | .cp => s
  | _ => { s with a := r }

/-- An ALU operation on A and a value: the result to A, all four flags written (R300 to R326). -/
def aluApply (op : AluOp) (v : Byte) (s : State) : State :=
  (writeAluResult op (aluResult op s.a v s.cf).r s).setFlags (isZero (aluResult op s.a v s.cf).r) (aluSubtracts op)
    (aluResult op s.a v s.cf).h (aluResult op s.a v s.cf).c

/-- `INC r` and `INC (HL)` (R330, R331): C unchanged. -/
def incOperand (o : Operand8) (s : State) : State :=
  (s.setOperand o (s.operand o + 1)).setFlags (isZero (s.operand o + 1)) false (incHalf (s.operand o)) s.cf

/-- `DEC r` and `DEC (HL)` (R332, R333): C unchanged. -/
def decOperand (o : Operand8) (s : State) : State :=
  (s.setOperand o (s.operand o - 1)).setFlags (isZero (s.operand o - 1)) true (decHalf (s.operand o)) s.cf

/-! ## One meaning per row of the opcode table -/

/-- 04 INC B (R330). -/
def execIncB (s : State) : Result := .next (incOperand (.reg .b) s)

/-- 05 DEC B (R332). -/
def execDecB (s : State) : Result := .next (decOperand (.reg .b) s)

/-- 0C INC C (R330). -/
def execIncC (s : State) : Result := .next (incOperand (.reg .c) s)

/-- 0D DEC C (R332). -/
def execDecC (s : State) : Result := .next (decOperand (.reg .c) s)

/-- 14 INC D (R330). -/
def execIncD (s : State) : Result := .next (incOperand (.reg .d) s)

/-- 15 DEC D (R332). -/
def execDecD (s : State) : Result := .next (decOperand (.reg .d) s)

/-- 1C INC E (R330). -/
def execIncE (s : State) : Result := .next (incOperand (.reg .e) s)

/-- 1D DEC E (R332). -/
def execDecE (s : State) : Result := .next (decOperand (.reg .e) s)

/-- 24 INC H (R330). -/
def execIncH (s : State) : Result := .next (incOperand (.reg .h) s)

/-- 25 DEC H (R332). -/
def execDecH (s : State) : Result := .next (decOperand (.reg .h) s)

/-- 2C INC L (R330). -/
def execIncL (s : State) : Result := .next (incOperand (.reg .l) s)

/-- 2D DEC L (R332). -/
def execDecL (s : State) : Result := .next (decOperand (.reg .l) s)

/-- 34 INC (HL) (R331). -/
def execIncAtHl (s : State) : Result := .next (incOperand .atHl s)

/-- 35 DEC (HL) (R333). -/
def execDecAtHl (s : State) : Result := .next (decOperand .atHl s)

/-- 3C INC A (R330). -/
def execIncA (s : State) : Result := .next (incOperand (.reg .a) s)

/-- 3D DEC A (R332). -/
def execDecA (s : State) : Result := .next (decOperand (.reg .a) s)

/-- 80 ADD A,B (R300). -/
def execAddAB (s : State) : Result := .next (aluApply .add (s.operand (.reg .b)) s)

/-- 81 ADD A,C (R300). -/
def execAddAC (s : State) : Result := .next (aluApply .add (s.operand (.reg .c)) s)

/-- 82 ADD A,D (R300). -/
def execAddAD (s : State) : Result := .next (aluApply .add (s.operand (.reg .d)) s)

/-- 83 ADD A,E (R300). -/
def execAddAE (s : State) : Result := .next (aluApply .add (s.operand (.reg .e)) s)

/-- 84 ADD A,H (R300). -/
def execAddAH (s : State) : Result := .next (aluApply .add (s.operand (.reg .h)) s)

/-- 85 ADD A,L (R300). -/
def execAddAL (s : State) : Result := .next (aluApply .add (s.operand (.reg .l)) s)

/-- 86 ADD A,(HL) (R302). -/
def execAddAAtHl (s : State) : Result := .next (aluApply .add (s.operand .atHl) s)

/-- 87 ADD A,A (R300). -/
def execAddAA (s : State) : Result := .next (aluApply .add (s.operand (.reg .a)) s)

/-- 88 ADC A,B (R303). -/
def execAdcAB (s : State) : Result := .next (aluApply .adc (s.operand (.reg .b)) s)

/-- 89 ADC A,C (R303). -/
def execAdcAC (s : State) : Result := .next (aluApply .adc (s.operand (.reg .c)) s)

/-- 8A ADC A,D (R303). -/
def execAdcAD (s : State) : Result := .next (aluApply .adc (s.operand (.reg .d)) s)

/-- 8B ADC A,E (R303). -/
def execAdcAE (s : State) : Result := .next (aluApply .adc (s.operand (.reg .e)) s)

/-- 8C ADC A,H (R303). -/
def execAdcAH (s : State) : Result := .next (aluApply .adc (s.operand (.reg .h)) s)

/-- 8D ADC A,L (R303). -/
def execAdcAL (s : State) : Result := .next (aluApply .adc (s.operand (.reg .l)) s)

/-- 8E ADC A,(HL) (R305). -/
def execAdcAAtHl (s : State) : Result := .next (aluApply .adc (s.operand .atHl) s)

/-- 8F ADC A,A (R303). -/
def execAdcAA (s : State) : Result := .next (aluApply .adc (s.operand (.reg .a)) s)

/-- 90 SUB B (R306). -/
def execSubB (s : State) : Result := .next (aluApply .sub (s.operand (.reg .b)) s)

/-- 91 SUB C (R306). -/
def execSubC (s : State) : Result := .next (aluApply .sub (s.operand (.reg .c)) s)

/-- 92 SUB D (R306). -/
def execSubD (s : State) : Result := .next (aluApply .sub (s.operand (.reg .d)) s)

/-- 93 SUB E (R306). -/
def execSubE (s : State) : Result := .next (aluApply .sub (s.operand (.reg .e)) s)

/-- 94 SUB H (R306). -/
def execSubH (s : State) : Result := .next (aluApply .sub (s.operand (.reg .h)) s)

/-- 95 SUB L (R306). -/
def execSubL (s : State) : Result := .next (aluApply .sub (s.operand (.reg .l)) s)

/-- 96 SUB (HL) (R308). -/
def execSubAtHl (s : State) : Result := .next (aluApply .sub (s.operand .atHl) s)

/-- 97 SUB A (R306). -/
def execSubA (s : State) : Result := .next (aluApply .sub (s.operand (.reg .a)) s)

/-- 98 SBC A,B (R309). -/
def execSbcAB (s : State) : Result := .next (aluApply .sbc (s.operand (.reg .b)) s)

/-- 99 SBC A,C (R309). -/
def execSbcAC (s : State) : Result := .next (aluApply .sbc (s.operand (.reg .c)) s)

/-- 9A SBC A,D (R309). -/
def execSbcAD (s : State) : Result := .next (aluApply .sbc (s.operand (.reg .d)) s)

/-- 9B SBC A,E (R309). -/
def execSbcAE (s : State) : Result := .next (aluApply .sbc (s.operand (.reg .e)) s)

/-- 9C SBC A,H (R309). -/
def execSbcAH (s : State) : Result := .next (aluApply .sbc (s.operand (.reg .h)) s)

/-- 9D SBC A,L (R309). -/
def execSbcAL (s : State) : Result := .next (aluApply .sbc (s.operand (.reg .l)) s)

/-- 9E SBC A,(HL) (R311). -/
def execSbcAAtHl (s : State) : Result := .next (aluApply .sbc (s.operand .atHl) s)

/-- 9F SBC A,A (R309). -/
def execSbcAA (s : State) : Result := .next (aluApply .sbc (s.operand (.reg .a)) s)

/-- A0 AND B (R315). -/
def execAndB (s : State) : Result := .next (aluApply .and (s.operand (.reg .b)) s)

/-- A1 AND C (R315). -/
def execAndC (s : State) : Result := .next (aluApply .and (s.operand (.reg .c)) s)

/-- A2 AND D (R315). -/
def execAndD (s : State) : Result := .next (aluApply .and (s.operand (.reg .d)) s)

/-- A3 AND E (R315). -/
def execAndE (s : State) : Result := .next (aluApply .and (s.operand (.reg .e)) s)

/-- A4 AND H (R315). -/
def execAndH (s : State) : Result := .next (aluApply .and (s.operand (.reg .h)) s)

/-- A5 AND L (R315). -/
def execAndL (s : State) : Result := .next (aluApply .and (s.operand (.reg .l)) s)

/-- A6 AND (HL) (R317). -/
def execAndAtHl (s : State) : Result := .next (aluApply .and (s.operand .atHl) s)

/-- A7 AND A (R315). -/
def execAndA (s : State) : Result := .next (aluApply .and (s.operand (.reg .a)) s)

/-- A8 XOR B (R318). -/
def execXorB (s : State) : Result := .next (aluApply .xor (s.operand (.reg .b)) s)

/-- A9 XOR C (R318). -/
def execXorC (s : State) : Result := .next (aluApply .xor (s.operand (.reg .c)) s)

/-- AA XOR D (R318). -/
def execXorD (s : State) : Result := .next (aluApply .xor (s.operand (.reg .d)) s)

/-- AB XOR E (R318). -/
def execXorE (s : State) : Result := .next (aluApply .xor (s.operand (.reg .e)) s)

/-- AC XOR H (R318). -/
def execXorH (s : State) : Result := .next (aluApply .xor (s.operand (.reg .h)) s)

/-- AD XOR L (R318). -/
def execXorL (s : State) : Result := .next (aluApply .xor (s.operand (.reg .l)) s)

/-- AE XOR (HL) (R320). -/
def execXorAtHl (s : State) : Result := .next (aluApply .xor (s.operand .atHl) s)

/-- AF XOR A (R318). -/
def execXorA (s : State) : Result := .next (aluApply .xor (s.operand (.reg .a)) s)

/-- B0 OR B (R321). -/
def execOrB (s : State) : Result := .next (aluApply .or (s.operand (.reg .b)) s)

/-- B1 OR C (R321). -/
def execOrC (s : State) : Result := .next (aluApply .or (s.operand (.reg .c)) s)

/-- B2 OR D (R321). -/
def execOrD (s : State) : Result := .next (aluApply .or (s.operand (.reg .d)) s)

/-- B3 OR E (R321). -/
def execOrE (s : State) : Result := .next (aluApply .or (s.operand (.reg .e)) s)

/-- B4 OR H (R321). -/
def execOrH (s : State) : Result := .next (aluApply .or (s.operand (.reg .h)) s)

/-- B5 OR L (R321). -/
def execOrL (s : State) : Result := .next (aluApply .or (s.operand (.reg .l)) s)

/-- B6 OR (HL) (R323). -/
def execOrAtHl (s : State) : Result := .next (aluApply .or (s.operand .atHl) s)

/-- B7 OR A (R321). -/
def execOrA (s : State) : Result := .next (aluApply .or (s.operand (.reg .a)) s)

/-- B8 CP B (R324). -/
def execCpB (s : State) : Result := .next (aluApply .cp (s.operand (.reg .b)) s)

/-- B9 CP C (R324). -/
def execCpC (s : State) : Result := .next (aluApply .cp (s.operand (.reg .c)) s)

/-- BA CP D (R324). -/
def execCpD (s : State) : Result := .next (aluApply .cp (s.operand (.reg .d)) s)

/-- BB CP E (R324). -/
def execCpE (s : State) : Result := .next (aluApply .cp (s.operand (.reg .e)) s)

/-- BC CP H (R324). -/
def execCpH (s : State) : Result := .next (aluApply .cp (s.operand (.reg .h)) s)

/-- BD CP L (R324). -/
def execCpL (s : State) : Result := .next (aluApply .cp (s.operand (.reg .l)) s)

/-- BE CP (HL) (R326). -/
def execCpAtHl (s : State) : Result := .next (aluApply .cp (s.operand .atHl) s)

/-- BF CP A (R324). -/
def execCpA (s : State) : Result := .next (aluApply .cp (s.operand (.reg .a)) s)

/-- C6 ADD A,d8 (R301). -/
def execAddAD8 (n : Byte) (s : State) : Result := .next (aluApply .add n (s.advance 1))

/-- CE ADC A,d8 (R304). -/
def execAdcAD8 (n : Byte) (s : State) : Result := .next (aluApply .adc n (s.advance 1))

/-- D6 SUB d8 (R307). -/
def execSubD8 (n : Byte) (s : State) : Result := .next (aluApply .sub n (s.advance 1))

/-- DE SBC A,d8 (R310). -/
def execSbcAD8 (n : Byte) (s : State) : Result := .next (aluApply .sbc n (s.advance 1))

/-- E6 AND d8 (R316). -/
def execAndD8 (n : Byte) (s : State) : Result := .next (aluApply .and n (s.advance 1))

/-- EE XOR d8 (R319). -/
def execXorD8 (n : Byte) (s : State) : Result := .next (aluApply .xor n (s.advance 1))

/-- F6 OR d8 (R322). -/
def execOrD8 (n : Byte) (s : State) : Result := .next (aluApply .or n (s.advance 1))

/-- FE CP d8 (R325). -/
def execCpD8 (n : Byte) (s : State) : Result := .next (aluApply .cp n (s.advance 1))

end Sys2Proof.Machine
end

