-- ==== Sys2Proof/Machine/Forms.lean ====
section
/-! DEFINITION. Builders: for each form of the spec whose opcode holds an operand field, the row of the table that an operand
selects. The decoder uses them to turn fields into rows, and a statement about a whole form quantifies over the operand:
`Instr.ldRegReg d r`, for every `d` and `r`, names the 49 rows of `LD r,r'`, one row for each choice. The 3-bit and 2-bit
codes of the operands stand here too (10_state.md R30, R35, R41; 30_encoding.md R122 to R125). -/

namespace Sys2Proof

/-! ## The codes of the operand fields -/

/-- The register of a 3-bit code other than 110 (R30, R123). The decoder asks for code 110 nowhere; the value there is not used. -/
def Reg8.ofCode : Nat → Reg8
  | 0 => .b | 1 => .c | 2 => .d | 3 => .e | 4 => .h | 5 => .l | _ => .a

/-- The operand of a 3-bit code: code 110 is (HL) (R124). -/
def Operand8.ofCode (c : Nat) : Operand8 :=
  if c = 6 then .atHl else .reg (Reg8.ofCode c)

/-- The code of a register operand (R30). -/
def Reg8.code : Reg8 → Nat
  | .b => 0 | .c => 1 | .d => 2 | .e => 3 | .h => 4 | .l => 5 | .a => 7

/-- The code of an operand field (R124). -/
def Operand8.code : Operand8 → Nat
  | .reg r => r.code
  | .atHl => 6

/-- The index of a pair in `rp` (R35). -/
def Pair.code : Pair → Nat
  | .bc => 0 | .de => 1 | .hl => 2 | .sp => 3

/-- The index of a pair in `rp2` (R35). -/
def StackPair.code : StackPair → Nat
  | .bc => 0 | .de => 1 | .hl => 2 | .af => 3

/-- The code of a condition (R41). -/
def Cond.code : Cond → Nat
  | .nz => 0 | .z => 1 | .nc => 2 | .c => 3

/-- The value of x that selects an ALU operation (R131). -/
def AluOp.code : AluOp → Nat
  | .add => 0 | .adc => 1 | .sub => 2 | .sbc => 3 | .and => 4 | .xor => 5 | .or => 6 | .cp => 7

/-- The value of x that selects a CB rotate or shift (R133). -/
def RotOp.code : RotOp → Nat
  | .rlc => 0 | .rrc => 1 | .rl => 2 | .rr => 3 | .sla => 4 | .sra => 5 | .swap => 6 | .srl => 7

/-- The pair of a 2-bit index in `rp` (R35). -/
def Pair.ofCode : Nat → Pair
  | 0 => .bc | 1 => .de | 2 => .hl | _ => .sp

/-- The pair of a 2-bit index in `rp2` (R35). -/
def StackPair.ofCode : Nat → StackPair
  | 0 => .bc | 1 => .de | 2 => .hl | _ => .af

/-- The condition of a 2-bit field cc (R41). -/
def Cond.ofCode : Nat → Cond
  | 0 => .nz | 1 => .z | 2 => .nc | _ => .c

/-- The ALU operation selected by x (R131). -/
def AluOp.ofCode : Nat → AluOp
  | 0 => .add | 1 => .adc | 2 => .sub | 3 => .sbc | 4 => .and | 5 => .xor | 6 => .or | _ => .cp

/-- The CB rotate or shift selected by x (R133). -/
def RotOp.ofCode : Nat → RotOp
  | 0 => .rlc | 1 => .rrc | 2 => .rl | 3 => .rr | 4 => .sla | 5 => .sra | 6 => .swap | _ => .srl

/-- A 3-bit number as an index. -/
def Oct.ofCode : Nat → Oct
  | 0 => .o0 | 1 => .o1 | 2 => .o2 | 3 => .o3 | 4 => .o4 | 5 => .o5 | 6 => .o6 | _ => .o7

/-- The number of an index. -/
def Oct.toNat : Oct → Nat
  | .o0 => 0 | .o1 => 1 | .o2 => 2 | .o3 => 3 | .o4 => 4 | .o5 => 5 | .o6 => 6 | .o7 => 7

/-! ## The builders -/

/-- `LD r,r'`, by destination and source (40_load8.md R200). -/
def Instr.ldRegReg : Reg8 → Reg8 → Instr
  | .b, .b => .ldBB | .b, .c => .ldBC | .b, .d => .ldBD | .b, .e => .ldBE | .b, .h => .ldBH | .b, .l => .ldBL
  | .b, .a => .ldBA | .c, .b => .ldCB | .c, .c => .ldCC | .c, .d => .ldCD | .c, .e => .ldCE | .c, .h => .ldCH
  | .c, .l => .ldCL | .c, .a => .ldCA | .d, .b => .ldDB | .d, .c => .ldDC | .d, .d => .ldDD | .d, .e => .ldDE
  | .d, .h => .ldDH | .d, .l => .ldDL | .d, .a => .ldDA | .e, .b => .ldEB | .e, .c => .ldEC | .e, .d => .ldED
  | .e, .e => .ldEE | .e, .h => .ldEH | .e, .l => .ldEL | .e, .a => .ldEA | .h, .b => .ldHB | .h, .c => .ldHC
  | .h, .d => .ldHD | .h, .e => .ldHE | .h, .h => .ldHH | .h, .l => .ldHL | .h, .a => .ldHA | .l, .b => .ldLB
  | .l, .c => .ldLC | .l, .d => .ldLD | .l, .e => .ldLE | .l, .h => .ldLH | .l, .l => .ldLL | .l, .a => .ldLA
  | .a, .b => .ldAB | .a, .c => .ldAC | .a, .d => .ldAD | .a, .e => .ldAE | .a, .h => .ldAH | .a, .l => .ldAL
  | .a, .a => .ldAA

/-- `LD r,n` (R201). -/
def Instr.ldRegImm : Reg8 → Byte → Instr
  | .b, n => .ldBD8 n | .c, n => .ldCD8 n | .d, n => .ldDD8 n | .e, n => .ldED8 n | .h, n => .ldHD8 n
  | .l, n => .ldLD8 n | .a, n => .ldAD8 n

/-- `LD r,(HL)` (R202). -/
def Instr.ldRegAtHl : Reg8 → Instr
  | .b => .ldBAtHl | .c => .ldCAtHl | .d => .ldDAtHl | .e => .ldEAtHl | .h => .ldHAtHl | .l => .ldLAtHl
  | .a => .ldAAtHl

/-- `LD (HL),r` (R203). -/
def Instr.ldAtHlReg : Reg8 → Instr
  | .b => .ldAtHlB | .c => .ldAtHlC | .d => .ldAtHlD | .e => .ldAtHlE | .h => .ldAtHlH | .l => .ldAtHlL
  | .a => .ldAtHlA

/-- `LD rr,nn` (41_load16_stack.md R250). -/
def Instr.ldPairImm : Pair → Word → Instr
  | .bc, nn => .ldBcD16 nn | .de, nn => .ldDeD16 nn | .hl, nn => .ldHlD16 nn | .sp, nn => .ldSpD16 nn

/-- `INC rr` (43_alu16.md R400). -/
def Instr.incPair : Pair → Instr
  | .bc => .incBc | .de => .incDe | .hl => .incHl | .sp => .incSp

/-- `DEC rr` (R401). -/
def Instr.decPair : Pair → Instr
  | .bc => .decBc | .de => .decDe | .hl => .decHl | .sp => .decSp

/-- `ADD HL,rr` (R402). -/
def Instr.addHlPair : Pair → Instr
  | .bc => .addHlBc | .de => .addHlDe | .hl => .addHlHl | .sp => .addHlSp

/-- `PUSH rr` (R252). -/
def Instr.push : StackPair → Instr
  | .bc => .pushBc | .de => .pushDe | .hl => .pushHl | .af => .pushAf

/-- `POP rr` (R253, R255). -/
def Instr.pop : StackPair → Instr
  | .bc => .popBc | .de => .popDe | .hl => .popHl | .af => .popAf

/-- The 8-bit ALU operations on A and a register or the byte at HL (42_alu8.md R300, R302 to R326). -/
def Instr.alu : AluOp → Operand8 → Instr
  | .add, .reg .b => .addAB | .add, .reg .c => .addAC | .add, .reg .d => .addAD | .add, .reg .e => .addAE
  | .add, .reg .h => .addAH | .add, .reg .l => .addAL | .add, .atHl => .addAAtHl | .add, .reg .a => .addAA
  | .adc, .reg .b => .adcAB | .adc, .reg .c => .adcAC | .adc, .reg .d => .adcAD | .adc, .reg .e => .adcAE
  | .adc, .reg .h => .adcAH | .adc, .reg .l => .adcAL | .adc, .atHl => .adcAAtHl | .adc, .reg .a => .adcAA
  | .sub, .reg .b => .subB | .sub, .reg .c => .subC | .sub, .reg .d => .subD | .sub, .reg .e => .subE
  | .sub, .reg .h => .subH | .sub, .reg .l => .subL | .sub, .atHl => .subAtHl | .sub, .reg .a => .subA
  | .sbc, .reg .b => .sbcAB | .sbc, .reg .c => .sbcAC | .sbc, .reg .d => .sbcAD | .sbc, .reg .e => .sbcAE
  | .sbc, .reg .h => .sbcAH | .sbc, .reg .l => .sbcAL | .sbc, .atHl => .sbcAAtHl | .sbc, .reg .a => .sbcAA
  | .and, .reg .b => .andB | .and, .reg .c => .andC | .and, .reg .d => .andD | .and, .reg .e => .andE
  | .and, .reg .h => .andH | .and, .reg .l => .andL | .and, .atHl => .andAtHl | .and, .reg .a => .andA
  | .xor, .reg .b => .xorB | .xor, .reg .c => .xorC | .xor, .reg .d => .xorD | .xor, .reg .e => .xorE
  | .xor, .reg .h => .xorH | .xor, .reg .l => .xorL | .xor, .atHl => .xorAtHl | .xor, .reg .a => .xorA
  | .or, .reg .b => .orB | .or, .reg .c => .orC | .or, .reg .d => .orD | .or, .reg .e => .orE
  | .or, .reg .h => .orH | .or, .reg .l => .orL | .or, .atHl => .orAtHl | .or, .reg .a => .orA
  | .cp, .reg .b => .cpB | .cp, .reg .c => .cpC | .cp, .reg .d => .cpD | .cp, .reg .e => .cpE
  | .cp, .reg .h => .cpH | .cp, .reg .l => .cpL | .cp, .atHl => .cpAtHl | .cp, .reg .a => .cpA

/-- The 8-bit ALU operations on A and an immediate (R301 to R325). -/
def Instr.aluImm : AluOp → Byte → Instr
  | .add, n => .addAD8 n | .adc, n => .adcAD8 n | .sub, n => .subD8 n | .sbc, n => .sbcAD8 n
  | .and, n => .andD8 n | .xor, n => .xorD8 n | .or, n => .orD8 n | .cp, n => .cpD8 n

/-- `INC r` and `INC (HL)` (R330, R331). -/
def Instr.incOp : Operand8 → Instr
  | .reg .b => .incB | .reg .c => .incC | .reg .d => .incD | .reg .e => .incE | .reg .h => .incH
  | .reg .l => .incL | .atHl => .incAtHl | .reg .a => .incA

/-- `DEC r` and `DEC (HL)` (R332, R333). -/
def Instr.decOp : Operand8 → Instr
  | .reg .b => .decB | .reg .c => .decC | .reg .d => .decD | .reg .e => .decE | .reg .h => .decH
  | .reg .l => .decL | .atHl => .decAtHl | .reg .a => .decA

/-- `JR cc,e` (46_control.md R554). -/
def Instr.jrCond : Cond → Byte → Instr
  | .nz, e => .jrNzE8 e | .z, e => .jrZE8 e | .nc, e => .jrNcE8 e | .c, e => .jrCE8 e

/-- `JP cc,nn` (R551). -/
def Instr.jpCond : Cond → Word → Instr
  | .nz, nn => .jpNzA16 nn | .z, nn => .jpZA16 nn | .nc, nn => .jpNcA16 nn | .c, nn => .jpCA16 nn

/-- `CALL cc,nn` (R556). -/
def Instr.callCond : Cond → Word → Instr
  | .nz, nn => .callNzA16 nn | .z, nn => .callZA16 nn | .nc, nn => .callNcA16 nn | .c, nn => .callCA16 nn

/-- `RET cc` (R558). -/
def Instr.retCond : Cond → Instr
  | .nz => .retNz | .z => .retZ | .nc => .retNc | .c => .retC

/-- `RST t` (R560). -/
def Instr.rst : Oct → Instr
  | .o0 => .rst00 | .o1 => .rst08 | .o2 => .rst10 | .o3 => .rst18 | .o4 => .rst20 | .o5 => .rst28
  | .o6 => .rst30 | .o7 => .rst38

/-- The CB rotates and shifts and SWAP (45_cb_bitops.md R500 to R507). -/
def Instr.rot : RotOp → Operand8 → Instr
  | .rlc, .reg .b => .rlcB | .rlc, .reg .c => .rlcC | .rlc, .reg .d => .rlcD | .rlc, .reg .e => .rlcE
  | .rlc, .reg .h => .rlcH | .rlc, .reg .l => .rlcL | .rlc, .atHl => .rlcAtHl | .rlc, .reg .a => .rlcA
  | .rrc, .reg .b => .rrcB | .rrc, .reg .c => .rrcC | .rrc, .reg .d => .rrcD | .rrc, .reg .e => .rrcE
  | .rrc, .reg .h => .rrcH | .rrc, .reg .l => .rrcL | .rrc, .atHl => .rrcAtHl | .rrc, .reg .a => .rrcA
  | .rl, .reg .b => .rlB | .rl, .reg .c => .rlC | .rl, .reg .d => .rlD | .rl, .reg .e => .rlE
  | .rl, .reg .h => .rlH | .rl, .reg .l => .rlL | .rl, .atHl => .rlAtHl | .rl, .reg .a => .rlA
  | .rr, .reg .b => .rrB | .rr, .reg .c => .rrC | .rr, .reg .d => .rrD | .rr, .reg .e => .rrE
  | .rr, .reg .h => .rrH | .rr, .reg .l => .rrL | .rr, .atHl => .rrAtHl | .rr, .reg .a => .rrA
  | .sla, .reg .b => .slaB | .sla, .reg .c => .slaC | .sla, .reg .d => .slaD | .sla, .reg .e => .slaE
  | .sla, .reg .h => .slaH | .sla, .reg .l => .slaL | .sla, .atHl => .slaAtHl | .sla, .reg .a => .slaA
  | .sra, .reg .b => .sraB | .sra, .reg .c => .sraC | .sra, .reg .d => .sraD | .sra, .reg .e => .sraE
  | .sra, .reg .h => .sraH | .sra, .reg .l => .sraL | .sra, .atHl => .sraAtHl | .sra, .reg .a => .sraA
  | .swap, .reg .b => .swapB | .swap, .reg .c => .swapC | .swap, .reg .d => .swapD | .swap, .reg .e => .swapE
  | .swap, .reg .h => .swapH | .swap, .reg .l => .swapL | .swap, .atHl => .swapAtHl | .swap, .reg .a => .swapA
  | .srl, .reg .b => .srlB | .srl, .reg .c => .srlC | .srl, .reg .d => .srlD | .srl, .reg .e => .srlE
  | .srl, .reg .h => .srlH | .srl, .reg .l => .srlL | .srl, .atHl => .srlAtHl | .srl, .reg .a => .srlA

/-- `BIT b,s` (R510). -/
def Instr.bit : Oct → Operand8 → Instr
  | .o0, .reg .b => .bit0B | .o0, .reg .c => .bit0C | .o0, .reg .d => .bit0D | .o0, .reg .e => .bit0E
  | .o0, .reg .h => .bit0H | .o0, .reg .l => .bit0L | .o0, .atHl => .bit0AtHl | .o0, .reg .a => .bit0A
  | .o1, .reg .b => .bit1B | .o1, .reg .c => .bit1C | .o1, .reg .d => .bit1D | .o1, .reg .e => .bit1E
  | .o1, .reg .h => .bit1H | .o1, .reg .l => .bit1L | .o1, .atHl => .bit1AtHl | .o1, .reg .a => .bit1A
  | .o2, .reg .b => .bit2B | .o2, .reg .c => .bit2C | .o2, .reg .d => .bit2D | .o2, .reg .e => .bit2E
  | .o2, .reg .h => .bit2H | .o2, .reg .l => .bit2L | .o2, .atHl => .bit2AtHl | .o2, .reg .a => .bit2A
  | .o3, .reg .b => .bit3B | .o3, .reg .c => .bit3C | .o3, .reg .d => .bit3D | .o3, .reg .e => .bit3E
  | .o3, .reg .h => .bit3H | .o3, .reg .l => .bit3L | .o3, .atHl => .bit3AtHl | .o3, .reg .a => .bit3A
  | .o4, .reg .b => .bit4B | .o4, .reg .c => .bit4C | .o4, .reg .d => .bit4D | .o4, .reg .e => .bit4E
  | .o4, .reg .h => .bit4H | .o4, .reg .l => .bit4L | .o4, .atHl => .bit4AtHl | .o4, .reg .a => .bit4A
  | .o5, .reg .b => .bit5B | .o5, .reg .c => .bit5C | .o5, .reg .d => .bit5D | .o5, .reg .e => .bit5E
  | .o5, .reg .h => .bit5H | .o5, .reg .l => .bit5L | .o5, .atHl => .bit5AtHl | .o5, .reg .a => .bit5A
  | .o6, .reg .b => .bit6B | .o6, .reg .c => .bit6C | .o6, .reg .d => .bit6D | .o6, .reg .e => .bit6E
  | .o6, .reg .h => .bit6H | .o6, .reg .l => .bit6L | .o6, .atHl => .bit6AtHl | .o6, .reg .a => .bit6A
  | .o7, .reg .b => .bit7B | .o7, .reg .c => .bit7C | .o7, .reg .d => .bit7D | .o7, .reg .e => .bit7E
  | .o7, .reg .h => .bit7H | .o7, .reg .l => .bit7L | .o7, .atHl => .bit7AtHl | .o7, .reg .a => .bit7A

/-- `RES b,s` (R511). -/
def Instr.res : Oct → Operand8 → Instr
  | .o0, .reg .b => .res0B | .o0, .reg .c => .res0C | .o0, .reg .d => .res0D | .o0, .reg .e => .res0E
  | .o0, .reg .h => .res0H | .o0, .reg .l => .res0L | .o0, .atHl => .res0AtHl | .o0, .reg .a => .res0A
  | .o1, .reg .b => .res1B | .o1, .reg .c => .res1C | .o1, .reg .d => .res1D | .o1, .reg .e => .res1E
  | .o1, .reg .h => .res1H | .o1, .reg .l => .res1L | .o1, .atHl => .res1AtHl | .o1, .reg .a => .res1A
  | .o2, .reg .b => .res2B | .o2, .reg .c => .res2C | .o2, .reg .d => .res2D | .o2, .reg .e => .res2E
  | .o2, .reg .h => .res2H | .o2, .reg .l => .res2L | .o2, .atHl => .res2AtHl | .o2, .reg .a => .res2A
  | .o3, .reg .b => .res3B | .o3, .reg .c => .res3C | .o3, .reg .d => .res3D | .o3, .reg .e => .res3E
  | .o3, .reg .h => .res3H | .o3, .reg .l => .res3L | .o3, .atHl => .res3AtHl | .o3, .reg .a => .res3A
  | .o4, .reg .b => .res4B | .o4, .reg .c => .res4C | .o4, .reg .d => .res4D | .o4, .reg .e => .res4E
  | .o4, .reg .h => .res4H | .o4, .reg .l => .res4L | .o4, .atHl => .res4AtHl | .o4, .reg .a => .res4A
  | .o5, .reg .b => .res5B | .o5, .reg .c => .res5C | .o5, .reg .d => .res5D | .o5, .reg .e => .res5E
  | .o5, .reg .h => .res5H | .o5, .reg .l => .res5L | .o5, .atHl => .res5AtHl | .o5, .reg .a => .res5A
  | .o6, .reg .b => .res6B | .o6, .reg .c => .res6C | .o6, .reg .d => .res6D | .o6, .reg .e => .res6E
  | .o6, .reg .h => .res6H | .o6, .reg .l => .res6L | .o6, .atHl => .res6AtHl | .o6, .reg .a => .res6A
  | .o7, .reg .b => .res7B | .o7, .reg .c => .res7C | .o7, .reg .d => .res7D | .o7, .reg .e => .res7E
  | .o7, .reg .h => .res7H | .o7, .reg .l => .res7L | .o7, .atHl => .res7AtHl | .o7, .reg .a => .res7A

/-- `SET b,s` (R512). -/
def Instr.set : Oct → Operand8 → Instr
  | .o0, .reg .b => .set0B | .o0, .reg .c => .set0C | .o0, .reg .d => .set0D | .o0, .reg .e => .set0E
  | .o0, .reg .h => .set0H | .o0, .reg .l => .set0L | .o0, .atHl => .set0AtHl | .o0, .reg .a => .set0A
  | .o1, .reg .b => .set1B | .o1, .reg .c => .set1C | .o1, .reg .d => .set1D | .o1, .reg .e => .set1E
  | .o1, .reg .h => .set1H | .o1, .reg .l => .set1L | .o1, .atHl => .set1AtHl | .o1, .reg .a => .set1A
  | .o2, .reg .b => .set2B | .o2, .reg .c => .set2C | .o2, .reg .d => .set2D | .o2, .reg .e => .set2E
  | .o2, .reg .h => .set2H | .o2, .reg .l => .set2L | .o2, .atHl => .set2AtHl | .o2, .reg .a => .set2A
  | .o3, .reg .b => .set3B | .o3, .reg .c => .set3C | .o3, .reg .d => .set3D | .o3, .reg .e => .set3E
  | .o3, .reg .h => .set3H | .o3, .reg .l => .set3L | .o3, .atHl => .set3AtHl | .o3, .reg .a => .set3A
  | .o4, .reg .b => .set4B | .o4, .reg .c => .set4C | .o4, .reg .d => .set4D | .o4, .reg .e => .set4E
  | .o4, .reg .h => .set4H | .o4, .reg .l => .set4L | .o4, .atHl => .set4AtHl | .o4, .reg .a => .set4A
  | .o5, .reg .b => .set5B | .o5, .reg .c => .set5C | .o5, .reg .d => .set5D | .o5, .reg .e => .set5E
  | .o5, .reg .h => .set5H | .o5, .reg .l => .set5L | .o5, .atHl => .set5AtHl | .o5, .reg .a => .set5A
  | .o6, .reg .b => .set6B | .o6, .reg .c => .set6C | .o6, .reg .d => .set6D | .o6, .reg .e => .set6E
  | .o6, .reg .h => .set6H | .o6, .reg .l => .set6L | .o6, .atHl => .set6AtHl | .o6, .reg .a => .set6A
  | .o7, .reg .b => .set7B | .o7, .reg .c => .set7C | .o7, .reg .d => .set7D | .o7, .reg .e => .set7E
  | .o7, .reg .h => .set7H | .o7, .reg .l => .set7L | .o7, .atHl => .set7AtHl | .o7, .reg .a => .set7A

end Sys2Proof
end

