-- ==== Sys2Proof/Machine/CbBitops.lean ====
section
/-! DEFINITION. Meanings: CB-prefixed rotates, shifts and bit operations (45_cb_bitops.md R500 to R512), and the byte 0xCB itself (30_encoding.md
R133). A handler of the CB space starts with pc at the second byte, which it consumes. Each is a function of the state at
the entry of the handler, where pc is the address of the first byte after the opcode (00_scope.md R15); the immediates are the
instruction's own arguments, so a handler advances pc past them (20_memory.md R97). Every handler completes (30_encoding.md R143). -/

namespace Sys2Proof.Machine

/-- A rotate, shift or SWAP of an operand (R500 to R507). -/
def rotOperand (op : RotOp) (o : Operand8) (s : State) : State :=
  ((s.advance 1).setOperand o (rotResult op (s.operand o) s.cf).1).setFlags (isZero (rotResult op (s.operand o) s.cf).1) false false
    (rotResult op (s.operand o) s.cf).2

/-- `BIT b,s` (R510): nothing is written back, C unchanged. -/
def bitOperand (b : Oct) (o : Operand8) (s : State) : State :=
  (s.advance 1).setFlags (bitIsClear (s.operand o) b) false true s.cf

/-- `RES b,s` (R511): F unchanged. -/
def resOperand (b : Oct) (o : Operand8) (s : State) : State := (s.advance 1).setOperand o (clearBit (s.operand o) b)

/-- `SET b,s` (R512): F unchanged. -/
def setOperandBit (b : Oct) (o : Operand8) (s : State) : State := (s.advance 1).setOperand o (setBit (s.operand o) b)

/-- What the handler of 0xCB dispatches to, by op, x and y of the second byte (R133). -/
def cbRow (c : Byte) (s : State) : State :=
  match opField c with
  | 0 => rotOperand (RotOp.ofCode (xField c)) (Operand8.ofCode (yField c)) s
  | 1 => bitOperand (Oct.ofCode (xField c)) (Operand8.ofCode (yField c)) s
  | 2 => resOperand (Oct.ofCode (xField c)) (Operand8.ofCode (yField c)) s
  | _ => setOperandBit (Oct.ofCode (xField c)) (Operand8.ofCode (yField c)) s

/-! ## One meaning per row of the opcode table -/

/-- CB PREFIX CB (R133). -/
def execPrefixCb (s : State) : Result := .next (cbRow s.fetchImm8.1 s)

/-- CB 00 RLC B (R500). -/
def execRlcB (s : State) : Result := .next (rotOperand .rlc (.reg .b) s)

/-- CB 01 RLC C (R500). -/
def execRlcC (s : State) : Result := .next (rotOperand .rlc (.reg .c) s)

/-- CB 02 RLC D (R500). -/
def execRlcD (s : State) : Result := .next (rotOperand .rlc (.reg .d) s)

/-- CB 03 RLC E (R500). -/
def execRlcE (s : State) : Result := .next (rotOperand .rlc (.reg .e) s)

/-- CB 04 RLC H (R500). -/
def execRlcH (s : State) : Result := .next (rotOperand .rlc (.reg .h) s)

/-- CB 05 RLC L (R500). -/
def execRlcL (s : State) : Result := .next (rotOperand .rlc (.reg .l) s)

/-- CB 06 RLC (HL) (R500). -/
def execRlcAtHl (s : State) : Result := .next (rotOperand .rlc .atHl s)

/-- CB 07 RLC A (R500). -/
def execRlcA (s : State) : Result := .next (rotOperand .rlc (.reg .a) s)

/-- CB 08 RRC B (R501). -/
def execRrcB (s : State) : Result := .next (rotOperand .rrc (.reg .b) s)

/-- CB 09 RRC C (R501). -/
def execRrcC (s : State) : Result := .next (rotOperand .rrc (.reg .c) s)

/-- CB 0A RRC D (R501). -/
def execRrcD (s : State) : Result := .next (rotOperand .rrc (.reg .d) s)

/-- CB 0B RRC E (R501). -/
def execRrcE (s : State) : Result := .next (rotOperand .rrc (.reg .e) s)

/-- CB 0C RRC H (R501). -/
def execRrcH (s : State) : Result := .next (rotOperand .rrc (.reg .h) s)

/-- CB 0D RRC L (R501). -/
def execRrcL (s : State) : Result := .next (rotOperand .rrc (.reg .l) s)

/-- CB 0E RRC (HL) (R501). -/
def execRrcAtHl (s : State) : Result := .next (rotOperand .rrc .atHl s)

/-- CB 0F RRC A (R501). -/
def execRrcA (s : State) : Result := .next (rotOperand .rrc (.reg .a) s)

/-- CB 10 RL B (R502). -/
def execRlB (s : State) : Result := .next (rotOperand .rl (.reg .b) s)

/-- CB 11 RL C (R502). -/
def execRlC (s : State) : Result := .next (rotOperand .rl (.reg .c) s)

/-- CB 12 RL D (R502). -/
def execRlD (s : State) : Result := .next (rotOperand .rl (.reg .d) s)

/-- CB 13 RL E (R502). -/
def execRlE (s : State) : Result := .next (rotOperand .rl (.reg .e) s)

/-- CB 14 RL H (R502). -/
def execRlH (s : State) : Result := .next (rotOperand .rl (.reg .h) s)

/-- CB 15 RL L (R502). -/
def execRlL (s : State) : Result := .next (rotOperand .rl (.reg .l) s)

/-- CB 16 RL (HL) (R502). -/
def execRlAtHl (s : State) : Result := .next (rotOperand .rl .atHl s)

/-- CB 17 RL A (R502). -/
def execRlA (s : State) : Result := .next (rotOperand .rl (.reg .a) s)

/-- CB 18 RR B (R503). -/
def execRrB (s : State) : Result := .next (rotOperand .rr (.reg .b) s)

/-- CB 19 RR C (R503). -/
def execRrC (s : State) : Result := .next (rotOperand .rr (.reg .c) s)

/-- CB 1A RR D (R503). -/
def execRrD (s : State) : Result := .next (rotOperand .rr (.reg .d) s)

/-- CB 1B RR E (R503). -/
def execRrE (s : State) : Result := .next (rotOperand .rr (.reg .e) s)

/-- CB 1C RR H (R503). -/
def execRrH (s : State) : Result := .next (rotOperand .rr (.reg .h) s)

/-- CB 1D RR L (R503). -/
def execRrL (s : State) : Result := .next (rotOperand .rr (.reg .l) s)

/-- CB 1E RR (HL) (R503). -/
def execRrAtHl (s : State) : Result := .next (rotOperand .rr .atHl s)

/-- CB 1F RR A (R503). -/
def execRrA (s : State) : Result := .next (rotOperand .rr (.reg .a) s)

/-- CB 20 SLA B (R504). -/
def execSlaB (s : State) : Result := .next (rotOperand .sla (.reg .b) s)

/-- CB 21 SLA C (R504). -/
def execSlaC (s : State) : Result := .next (rotOperand .sla (.reg .c) s)

/-- CB 22 SLA D (R504). -/
def execSlaD (s : State) : Result := .next (rotOperand .sla (.reg .d) s)

/-- CB 23 SLA E (R504). -/
def execSlaE (s : State) : Result := .next (rotOperand .sla (.reg .e) s)

/-- CB 24 SLA H (R504). -/
def execSlaH (s : State) : Result := .next (rotOperand .sla (.reg .h) s)

/-- CB 25 SLA L (R504). -/
def execSlaL (s : State) : Result := .next (rotOperand .sla (.reg .l) s)

/-- CB 26 SLA (HL) (R504). -/
def execSlaAtHl (s : State) : Result := .next (rotOperand .sla .atHl s)

/-- CB 27 SLA A (R504). -/
def execSlaA (s : State) : Result := .next (rotOperand .sla (.reg .a) s)

/-- CB 28 SRA B (R505). -/
def execSraB (s : State) : Result := .next (rotOperand .sra (.reg .b) s)

/-- CB 29 SRA C (R505). -/
def execSraC (s : State) : Result := .next (rotOperand .sra (.reg .c) s)

/-- CB 2A SRA D (R505). -/
def execSraD (s : State) : Result := .next (rotOperand .sra (.reg .d) s)

/-- CB 2B SRA E (R505). -/
def execSraE (s : State) : Result := .next (rotOperand .sra (.reg .e) s)

/-- CB 2C SRA H (R505). -/
def execSraH (s : State) : Result := .next (rotOperand .sra (.reg .h) s)

/-- CB 2D SRA L (R505). -/
def execSraL (s : State) : Result := .next (rotOperand .sra (.reg .l) s)

/-- CB 2E SRA (HL) (R505). -/
def execSraAtHl (s : State) : Result := .next (rotOperand .sra .atHl s)

/-- CB 2F SRA A (R505). -/
def execSraA (s : State) : Result := .next (rotOperand .sra (.reg .a) s)

/-- CB 30 SWAP B (R506). -/
def execSwapB (s : State) : Result := .next (rotOperand .swap (.reg .b) s)

/-- CB 31 SWAP C (R506). -/
def execSwapC (s : State) : Result := .next (rotOperand .swap (.reg .c) s)

/-- CB 32 SWAP D (R506). -/
def execSwapD (s : State) : Result := .next (rotOperand .swap (.reg .d) s)

/-- CB 33 SWAP E (R506). -/
def execSwapE (s : State) : Result := .next (rotOperand .swap (.reg .e) s)

/-- CB 34 SWAP H (R506). -/
def execSwapH (s : State) : Result := .next (rotOperand .swap (.reg .h) s)

/-- CB 35 SWAP L (R506). -/
def execSwapL (s : State) : Result := .next (rotOperand .swap (.reg .l) s)

/-- CB 36 SWAP (HL) (R506). -/
def execSwapAtHl (s : State) : Result := .next (rotOperand .swap .atHl s)

/-- CB 37 SWAP A (R506). -/
def execSwapA (s : State) : Result := .next (rotOperand .swap (.reg .a) s)

/-- CB 38 SRL B (R507). -/
def execSrlB (s : State) : Result := .next (rotOperand .srl (.reg .b) s)

/-- CB 39 SRL C (R507). -/
def execSrlC (s : State) : Result := .next (rotOperand .srl (.reg .c) s)

/-- CB 3A SRL D (R507). -/
def execSrlD (s : State) : Result := .next (rotOperand .srl (.reg .d) s)

/-- CB 3B SRL E (R507). -/
def execSrlE (s : State) : Result := .next (rotOperand .srl (.reg .e) s)

/-- CB 3C SRL H (R507). -/
def execSrlH (s : State) : Result := .next (rotOperand .srl (.reg .h) s)

/-- CB 3D SRL L (R507). -/
def execSrlL (s : State) : Result := .next (rotOperand .srl (.reg .l) s)

/-- CB 3E SRL (HL) (R507). -/
def execSrlAtHl (s : State) : Result := .next (rotOperand .srl .atHl s)

/-- CB 3F SRL A (R507). -/
def execSrlA (s : State) : Result := .next (rotOperand .srl (.reg .a) s)

/-- CB 40 BIT 0,B (R510). -/
def execBit0B (s : State) : Result := .next (bitOperand .o0 (.reg .b) s)

/-- CB 41 BIT 0,C (R510). -/
def execBit0C (s : State) : Result := .next (bitOperand .o0 (.reg .c) s)

/-- CB 42 BIT 0,D (R510). -/
def execBit0D (s : State) : Result := .next (bitOperand .o0 (.reg .d) s)

/-- CB 43 BIT 0,E (R510). -/
def execBit0E (s : State) : Result := .next (bitOperand .o0 (.reg .e) s)

/-- CB 44 BIT 0,H (R510). -/
def execBit0H (s : State) : Result := .next (bitOperand .o0 (.reg .h) s)

/-- CB 45 BIT 0,L (R510). -/
def execBit0L (s : State) : Result := .next (bitOperand .o0 (.reg .l) s)

/-- CB 46 BIT 0,(HL) (R510). -/
def execBit0AtHl (s : State) : Result := .next (bitOperand .o0 .atHl s)

/-- CB 47 BIT 0,A (R510). -/
def execBit0A (s : State) : Result := .next (bitOperand .o0 (.reg .a) s)

/-- CB 48 BIT 1,B (R510). -/
def execBit1B (s : State) : Result := .next (bitOperand .o1 (.reg .b) s)

/-- CB 49 BIT 1,C (R510). -/
def execBit1C (s : State) : Result := .next (bitOperand .o1 (.reg .c) s)

/-- CB 4A BIT 1,D (R510). -/
def execBit1D (s : State) : Result := .next (bitOperand .o1 (.reg .d) s)

/-- CB 4B BIT 1,E (R510). -/
def execBit1E (s : State) : Result := .next (bitOperand .o1 (.reg .e) s)

/-- CB 4C BIT 1,H (R510). -/
def execBit1H (s : State) : Result := .next (bitOperand .o1 (.reg .h) s)

/-- CB 4D BIT 1,L (R510). -/
def execBit1L (s : State) : Result := .next (bitOperand .o1 (.reg .l) s)

/-- CB 4E BIT 1,(HL) (R510). -/
def execBit1AtHl (s : State) : Result := .next (bitOperand .o1 .atHl s)

/-- CB 4F BIT 1,A (R510). -/
def execBit1A (s : State) : Result := .next (bitOperand .o1 (.reg .a) s)

/-- CB 50 BIT 2,B (R510). -/
def execBit2B (s : State) : Result := .next (bitOperand .o2 (.reg .b) s)

/-- CB 51 BIT 2,C (R510). -/
def execBit2C (s : State) : Result := .next (bitOperand .o2 (.reg .c) s)

/-- CB 52 BIT 2,D (R510). -/
def execBit2D (s : State) : Result := .next (bitOperand .o2 (.reg .d) s)

/-- CB 53 BIT 2,E (R510). -/
def execBit2E (s : State) : Result := .next (bitOperand .o2 (.reg .e) s)

/-- CB 54 BIT 2,H (R510). -/
def execBit2H (s : State) : Result := .next (bitOperand .o2 (.reg .h) s)

/-- CB 55 BIT 2,L (R510). -/
def execBit2L (s : State) : Result := .next (bitOperand .o2 (.reg .l) s)

/-- CB 56 BIT 2,(HL) (R510). -/
def execBit2AtHl (s : State) : Result := .next (bitOperand .o2 .atHl s)

/-- CB 57 BIT 2,A (R510). -/
def execBit2A (s : State) : Result := .next (bitOperand .o2 (.reg .a) s)

/-- CB 58 BIT 3,B (R510). -/
def execBit3B (s : State) : Result := .next (bitOperand .o3 (.reg .b) s)

/-- CB 59 BIT 3,C (R510). -/
def execBit3C (s : State) : Result := .next (bitOperand .o3 (.reg .c) s)

/-- CB 5A BIT 3,D (R510). -/
def execBit3D (s : State) : Result := .next (bitOperand .o3 (.reg .d) s)

/-- CB 5B BIT 3,E (R510). -/
def execBit3E (s : State) : Result := .next (bitOperand .o3 (.reg .e) s)

/-- CB 5C BIT 3,H (R510). -/
def execBit3H (s : State) : Result := .next (bitOperand .o3 (.reg .h) s)

/-- CB 5D BIT 3,L (R510). -/
def execBit3L (s : State) : Result := .next (bitOperand .o3 (.reg .l) s)

/-- CB 5E BIT 3,(HL) (R510). -/
def execBit3AtHl (s : State) : Result := .next (bitOperand .o3 .atHl s)

/-- CB 5F BIT 3,A (R510). -/
def execBit3A (s : State) : Result := .next (bitOperand .o3 (.reg .a) s)

/-- CB 60 BIT 4,B (R510). -/
def execBit4B (s : State) : Result := .next (bitOperand .o4 (.reg .b) s)

/-- CB 61 BIT 4,C (R510). -/
def execBit4C (s : State) : Result := .next (bitOperand .o4 (.reg .c) s)

/-- CB 62 BIT 4,D (R510). -/
def execBit4D (s : State) : Result := .next (bitOperand .o4 (.reg .d) s)

/-- CB 63 BIT 4,E (R510). -/
def execBit4E (s : State) : Result := .next (bitOperand .o4 (.reg .e) s)

/-- CB 64 BIT 4,H (R510). -/
def execBit4H (s : State) : Result := .next (bitOperand .o4 (.reg .h) s)

/-- CB 65 BIT 4,L (R510). -/
def execBit4L (s : State) : Result := .next (bitOperand .o4 (.reg .l) s)

/-- CB 66 BIT 4,(HL) (R510). -/
def execBit4AtHl (s : State) : Result := .next (bitOperand .o4 .atHl s)

/-- CB 67 BIT 4,A (R510). -/
def execBit4A (s : State) : Result := .next (bitOperand .o4 (.reg .a) s)

/-- CB 68 BIT 5,B (R510). -/
def execBit5B (s : State) : Result := .next (bitOperand .o5 (.reg .b) s)

/-- CB 69 BIT 5,C (R510). -/
def execBit5C (s : State) : Result := .next (bitOperand .o5 (.reg .c) s)

/-- CB 6A BIT 5,D (R510). -/
def execBit5D (s : State) : Result := .next (bitOperand .o5 (.reg .d) s)

/-- CB 6B BIT 5,E (R510). -/
def execBit5E (s : State) : Result := .next (bitOperand .o5 (.reg .e) s)

/-- CB 6C BIT 5,H (R510). -/
def execBit5H (s : State) : Result := .next (bitOperand .o5 (.reg .h) s)

/-- CB 6D BIT 5,L (R510). -/
def execBit5L (s : State) : Result := .next (bitOperand .o5 (.reg .l) s)

/-- CB 6E BIT 5,(HL) (R510). -/
def execBit5AtHl (s : State) : Result := .next (bitOperand .o5 .atHl s)

/-- CB 6F BIT 5,A (R510). -/
def execBit5A (s : State) : Result := .next (bitOperand .o5 (.reg .a) s)

/-- CB 70 BIT 6,B (R510). -/
def execBit6B (s : State) : Result := .next (bitOperand .o6 (.reg .b) s)

/-- CB 71 BIT 6,C (R510). -/
def execBit6C (s : State) : Result := .next (bitOperand .o6 (.reg .c) s)

/-- CB 72 BIT 6,D (R510). -/
def execBit6D (s : State) : Result := .next (bitOperand .o6 (.reg .d) s)

/-- CB 73 BIT 6,E (R510). -/
def execBit6E (s : State) : Result := .next (bitOperand .o6 (.reg .e) s)

/-- CB 74 BIT 6,H (R510). -/
def execBit6H (s : State) : Result := .next (bitOperand .o6 (.reg .h) s)

/-- CB 75 BIT 6,L (R510). -/
def execBit6L (s : State) : Result := .next (bitOperand .o6 (.reg .l) s)

/-- CB 76 BIT 6,(HL) (R510). -/
def execBit6AtHl (s : State) : Result := .next (bitOperand .o6 .atHl s)

/-- CB 77 BIT 6,A (R510). -/
def execBit6A (s : State) : Result := .next (bitOperand .o6 (.reg .a) s)

/-- CB 78 BIT 7,B (R510). -/
def execBit7B (s : State) : Result := .next (bitOperand .o7 (.reg .b) s)

/-- CB 79 BIT 7,C (R510). -/
def execBit7C (s : State) : Result := .next (bitOperand .o7 (.reg .c) s)

/-- CB 7A BIT 7,D (R510). -/
def execBit7D (s : State) : Result := .next (bitOperand .o7 (.reg .d) s)

/-- CB 7B BIT 7,E (R510). -/
def execBit7E (s : State) : Result := .next (bitOperand .o7 (.reg .e) s)

/-- CB 7C BIT 7,H (R510). -/
def execBit7H (s : State) : Result := .next (bitOperand .o7 (.reg .h) s)

/-- CB 7D BIT 7,L (R510). -/
def execBit7L (s : State) : Result := .next (bitOperand .o7 (.reg .l) s)

/-- CB 7E BIT 7,(HL) (R510). -/
def execBit7AtHl (s : State) : Result := .next (bitOperand .o7 .atHl s)

/-- CB 7F BIT 7,A (R510). -/
def execBit7A (s : State) : Result := .next (bitOperand .o7 (.reg .a) s)

/-- CB 80 RES 0,B (R511). -/
def execRes0B (s : State) : Result := .next (resOperand .o0 (.reg .b) s)

/-- CB 81 RES 0,C (R511). -/
def execRes0C (s : State) : Result := .next (resOperand .o0 (.reg .c) s)

/-- CB 82 RES 0,D (R511). -/
def execRes0D (s : State) : Result := .next (resOperand .o0 (.reg .d) s)

/-- CB 83 RES 0,E (R511). -/
def execRes0E (s : State) : Result := .next (resOperand .o0 (.reg .e) s)

/-- CB 84 RES 0,H (R511). -/
def execRes0H (s : State) : Result := .next (resOperand .o0 (.reg .h) s)

/-- CB 85 RES 0,L (R511). -/
def execRes0L (s : State) : Result := .next (resOperand .o0 (.reg .l) s)

/-- CB 86 RES 0,(HL) (R511). -/
def execRes0AtHl (s : State) : Result := .next (resOperand .o0 .atHl s)

/-- CB 87 RES 0,A (R511). -/
def execRes0A (s : State) : Result := .next (resOperand .o0 (.reg .a) s)

/-- CB 88 RES 1,B (R511). -/
def execRes1B (s : State) : Result := .next (resOperand .o1 (.reg .b) s)

/-- CB 89 RES 1,C (R511). -/
def execRes1C (s : State) : Result := .next (resOperand .o1 (.reg .c) s)

/-- CB 8A RES 1,D (R511). -/
def execRes1D (s : State) : Result := .next (resOperand .o1 (.reg .d) s)

/-- CB 8B RES 1,E (R511). -/
def execRes1E (s : State) : Result := .next (resOperand .o1 (.reg .e) s)

/-- CB 8C RES 1,H (R511). -/
def execRes1H (s : State) : Result := .next (resOperand .o1 (.reg .h) s)

/-- CB 8D RES 1,L (R511). -/
def execRes1L (s : State) : Result := .next (resOperand .o1 (.reg .l) s)

/-- CB 8E RES 1,(HL) (R511). -/
def execRes1AtHl (s : State) : Result := .next (resOperand .o1 .atHl s)

/-- CB 8F RES 1,A (R511). -/
def execRes1A (s : State) : Result := .next (resOperand .o1 (.reg .a) s)

/-- CB 90 RES 2,B (R511). -/
def execRes2B (s : State) : Result := .next (resOperand .o2 (.reg .b) s)

/-- CB 91 RES 2,C (R511). -/
def execRes2C (s : State) : Result := .next (resOperand .o2 (.reg .c) s)

/-- CB 92 RES 2,D (R511). -/
def execRes2D (s : State) : Result := .next (resOperand .o2 (.reg .d) s)

/-- CB 93 RES 2,E (R511). -/
def execRes2E (s : State) : Result := .next (resOperand .o2 (.reg .e) s)

/-- CB 94 RES 2,H (R511). -/
def execRes2H (s : State) : Result := .next (resOperand .o2 (.reg .h) s)

/-- CB 95 RES 2,L (R511). -/
def execRes2L (s : State) : Result := .next (resOperand .o2 (.reg .l) s)

/-- CB 96 RES 2,(HL) (R511). -/
def execRes2AtHl (s : State) : Result := .next (resOperand .o2 .atHl s)

/-- CB 97 RES 2,A (R511). -/
def execRes2A (s : State) : Result := .next (resOperand .o2 (.reg .a) s)

/-- CB 98 RES 3,B (R511). -/
def execRes3B (s : State) : Result := .next (resOperand .o3 (.reg .b) s)

/-- CB 99 RES 3,C (R511). -/
def execRes3C (s : State) : Result := .next (resOperand .o3 (.reg .c) s)

/-- CB 9A RES 3,D (R511). -/
def execRes3D (s : State) : Result := .next (resOperand .o3 (.reg .d) s)

/-- CB 9B RES 3,E (R511). -/
def execRes3E (s : State) : Result := .next (resOperand .o3 (.reg .e) s)

/-- CB 9C RES 3,H (R511). -/
def execRes3H (s : State) : Result := .next (resOperand .o3 (.reg .h) s)

/-- CB 9D RES 3,L (R511). -/
def execRes3L (s : State) : Result := .next (resOperand .o3 (.reg .l) s)

/-- CB 9E RES 3,(HL) (R511). -/
def execRes3AtHl (s : State) : Result := .next (resOperand .o3 .atHl s)

/-- CB 9F RES 3,A (R511). -/
def execRes3A (s : State) : Result := .next (resOperand .o3 (.reg .a) s)

/-- CB A0 RES 4,B (R511). -/
def execRes4B (s : State) : Result := .next (resOperand .o4 (.reg .b) s)

/-- CB A1 RES 4,C (R511). -/
def execRes4C (s : State) : Result := .next (resOperand .o4 (.reg .c) s)

/-- CB A2 RES 4,D (R511). -/
def execRes4D (s : State) : Result := .next (resOperand .o4 (.reg .d) s)

/-- CB A3 RES 4,E (R511). -/
def execRes4E (s : State) : Result := .next (resOperand .o4 (.reg .e) s)

/-- CB A4 RES 4,H (R511). -/
def execRes4H (s : State) : Result := .next (resOperand .o4 (.reg .h) s)

/-- CB A5 RES 4,L (R511). -/
def execRes4L (s : State) : Result := .next (resOperand .o4 (.reg .l) s)

/-- CB A6 RES 4,(HL) (R511). -/
def execRes4AtHl (s : State) : Result := .next (resOperand .o4 .atHl s)

/-- CB A7 RES 4,A (R511). -/
def execRes4A (s : State) : Result := .next (resOperand .o4 (.reg .a) s)

/-- CB A8 RES 5,B (R511). -/
def execRes5B (s : State) : Result := .next (resOperand .o5 (.reg .b) s)

/-- CB A9 RES 5,C (R511). -/
def execRes5C (s : State) : Result := .next (resOperand .o5 (.reg .c) s)

/-- CB AA RES 5,D (R511). -/
def execRes5D (s : State) : Result := .next (resOperand .o5 (.reg .d) s)

/-- CB AB RES 5,E (R511). -/
def execRes5E (s : State) : Result := .next (resOperand .o5 (.reg .e) s)

/-- CB AC RES 5,H (R511). -/
def execRes5H (s : State) : Result := .next (resOperand .o5 (.reg .h) s)

/-- CB AD RES 5,L (R511). -/
def execRes5L (s : State) : Result := .next (resOperand .o5 (.reg .l) s)

/-- CB AE RES 5,(HL) (R511). -/
def execRes5AtHl (s : State) : Result := .next (resOperand .o5 .atHl s)

/-- CB AF RES 5,A (R511). -/
def execRes5A (s : State) : Result := .next (resOperand .o5 (.reg .a) s)

/-- CB B0 RES 6,B (R511). -/
def execRes6B (s : State) : Result := .next (resOperand .o6 (.reg .b) s)

/-- CB B1 RES 6,C (R511). -/
def execRes6C (s : State) : Result := .next (resOperand .o6 (.reg .c) s)

/-- CB B2 RES 6,D (R511). -/
def execRes6D (s : State) : Result := .next (resOperand .o6 (.reg .d) s)

/-- CB B3 RES 6,E (R511). -/
def execRes6E (s : State) : Result := .next (resOperand .o6 (.reg .e) s)

/-- CB B4 RES 6,H (R511). -/
def execRes6H (s : State) : Result := .next (resOperand .o6 (.reg .h) s)

/-- CB B5 RES 6,L (R511). -/
def execRes6L (s : State) : Result := .next (resOperand .o6 (.reg .l) s)

/-- CB B6 RES 6,(HL) (R511). -/
def execRes6AtHl (s : State) : Result := .next (resOperand .o6 .atHl s)

/-- CB B7 RES 6,A (R511). -/
def execRes6A (s : State) : Result := .next (resOperand .o6 (.reg .a) s)

/-- CB B8 RES 7,B (R511). -/
def execRes7B (s : State) : Result := .next (resOperand .o7 (.reg .b) s)

/-- CB B9 RES 7,C (R511). -/
def execRes7C (s : State) : Result := .next (resOperand .o7 (.reg .c) s)

/-- CB BA RES 7,D (R511). -/
def execRes7D (s : State) : Result := .next (resOperand .o7 (.reg .d) s)

/-- CB BB RES 7,E (R511). -/
def execRes7E (s : State) : Result := .next (resOperand .o7 (.reg .e) s)

/-- CB BC RES 7,H (R511). -/
def execRes7H (s : State) : Result := .next (resOperand .o7 (.reg .h) s)

/-- CB BD RES 7,L (R511). -/
def execRes7L (s : State) : Result := .next (resOperand .o7 (.reg .l) s)

/-- CB BE RES 7,(HL) (R511). -/
def execRes7AtHl (s : State) : Result := .next (resOperand .o7 .atHl s)

/-- CB BF RES 7,A (R511). -/
def execRes7A (s : State) : Result := .next (resOperand .o7 (.reg .a) s)

/-- CB C0 SET 0,B (R512). -/
def execSet0B (s : State) : Result := .next (setOperandBit .o0 (.reg .b) s)

/-- CB C1 SET 0,C (R512). -/
def execSet0C (s : State) : Result := .next (setOperandBit .o0 (.reg .c) s)

/-- CB C2 SET 0,D (R512). -/
def execSet0D (s : State) : Result := .next (setOperandBit .o0 (.reg .d) s)

/-- CB C3 SET 0,E (R512). -/
def execSet0E (s : State) : Result := .next (setOperandBit .o0 (.reg .e) s)

/-- CB C4 SET 0,H (R512). -/
def execSet0H (s : State) : Result := .next (setOperandBit .o0 (.reg .h) s)

/-- CB C5 SET 0,L (R512). -/
def execSet0L (s : State) : Result := .next (setOperandBit .o0 (.reg .l) s)

/-- CB C6 SET 0,(HL) (R512). -/
def execSet0AtHl (s : State) : Result := .next (setOperandBit .o0 .atHl s)

/-- CB C7 SET 0,A (R512). -/
def execSet0A (s : State) : Result := .next (setOperandBit .o0 (.reg .a) s)

/-- CB C8 SET 1,B (R512). -/
def execSet1B (s : State) : Result := .next (setOperandBit .o1 (.reg .b) s)

/-- CB C9 SET 1,C (R512). -/
def execSet1C (s : State) : Result := .next (setOperandBit .o1 (.reg .c) s)

/-- CB CA SET 1,D (R512). -/
def execSet1D (s : State) : Result := .next (setOperandBit .o1 (.reg .d) s)

/-- CB CB SET 1,E (R512). -/
def execSet1E (s : State) : Result := .next (setOperandBit .o1 (.reg .e) s)

/-- CB CC SET 1,H (R512). -/
def execSet1H (s : State) : Result := .next (setOperandBit .o1 (.reg .h) s)

/-- CB CD SET 1,L (R512). -/
def execSet1L (s : State) : Result := .next (setOperandBit .o1 (.reg .l) s)

/-- CB CE SET 1,(HL) (R512). -/
def execSet1AtHl (s : State) : Result := .next (setOperandBit .o1 .atHl s)

/-- CB CF SET 1,A (R512). -/
def execSet1A (s : State) : Result := .next (setOperandBit .o1 (.reg .a) s)

/-- CB D0 SET 2,B (R512). -/
def execSet2B (s : State) : Result := .next (setOperandBit .o2 (.reg .b) s)

/-- CB D1 SET 2,C (R512). -/
def execSet2C (s : State) : Result := .next (setOperandBit .o2 (.reg .c) s)

/-- CB D2 SET 2,D (R512). -/
def execSet2D (s : State) : Result := .next (setOperandBit .o2 (.reg .d) s)

/-- CB D3 SET 2,E (R512). -/
def execSet2E (s : State) : Result := .next (setOperandBit .o2 (.reg .e) s)

/-- CB D4 SET 2,H (R512). -/
def execSet2H (s : State) : Result := .next (setOperandBit .o2 (.reg .h) s)

/-- CB D5 SET 2,L (R512). -/
def execSet2L (s : State) : Result := .next (setOperandBit .o2 (.reg .l) s)

/-- CB D6 SET 2,(HL) (R512). -/
def execSet2AtHl (s : State) : Result := .next (setOperandBit .o2 .atHl s)

/-- CB D7 SET 2,A (R512). -/
def execSet2A (s : State) : Result := .next (setOperandBit .o2 (.reg .a) s)

/-- CB D8 SET 3,B (R512). -/
def execSet3B (s : State) : Result := .next (setOperandBit .o3 (.reg .b) s)

/-- CB D9 SET 3,C (R512). -/
def execSet3C (s : State) : Result := .next (setOperandBit .o3 (.reg .c) s)

/-- CB DA SET 3,D (R512). -/
def execSet3D (s : State) : Result := .next (setOperandBit .o3 (.reg .d) s)

/-- CB DB SET 3,E (R512). -/
def execSet3E (s : State) : Result := .next (setOperandBit .o3 (.reg .e) s)

/-- CB DC SET 3,H (R512). -/
def execSet3H (s : State) : Result := .next (setOperandBit .o3 (.reg .h) s)

/-- CB DD SET 3,L (R512). -/
def execSet3L (s : State) : Result := .next (setOperandBit .o3 (.reg .l) s)

/-- CB DE SET 3,(HL) (R512). -/
def execSet3AtHl (s : State) : Result := .next (setOperandBit .o3 .atHl s)

/-- CB DF SET 3,A (R512). -/
def execSet3A (s : State) : Result := .next (setOperandBit .o3 (.reg .a) s)

/-- CB E0 SET 4,B (R512). -/
def execSet4B (s : State) : Result := .next (setOperandBit .o4 (.reg .b) s)

/-- CB E1 SET 4,C (R512). -/
def execSet4C (s : State) : Result := .next (setOperandBit .o4 (.reg .c) s)

/-- CB E2 SET 4,D (R512). -/
def execSet4D (s : State) : Result := .next (setOperandBit .o4 (.reg .d) s)

/-- CB E3 SET 4,E (R512). -/
def execSet4E (s : State) : Result := .next (setOperandBit .o4 (.reg .e) s)

/-- CB E4 SET 4,H (R512). -/
def execSet4H (s : State) : Result := .next (setOperandBit .o4 (.reg .h) s)

/-- CB E5 SET 4,L (R512). -/
def execSet4L (s : State) : Result := .next (setOperandBit .o4 (.reg .l) s)

/-- CB E6 SET 4,(HL) (R512). -/
def execSet4AtHl (s : State) : Result := .next (setOperandBit .o4 .atHl s)

/-- CB E7 SET 4,A (R512). -/
def execSet4A (s : State) : Result := .next (setOperandBit .o4 (.reg .a) s)

/-- CB E8 SET 5,B (R512). -/
def execSet5B (s : State) : Result := .next (setOperandBit .o5 (.reg .b) s)

/-- CB E9 SET 5,C (R512). -/
def execSet5C (s : State) : Result := .next (setOperandBit .o5 (.reg .c) s)

/-- CB EA SET 5,D (R512). -/
def execSet5D (s : State) : Result := .next (setOperandBit .o5 (.reg .d) s)

/-- CB EB SET 5,E (R512). -/
def execSet5E (s : State) : Result := .next (setOperandBit .o5 (.reg .e) s)

/-- CB EC SET 5,H (R512). -/
def execSet5H (s : State) : Result := .next (setOperandBit .o5 (.reg .h) s)

/-- CB ED SET 5,L (R512). -/
def execSet5L (s : State) : Result := .next (setOperandBit .o5 (.reg .l) s)

/-- CB EE SET 5,(HL) (R512). -/
def execSet5AtHl (s : State) : Result := .next (setOperandBit .o5 .atHl s)

/-- CB EF SET 5,A (R512). -/
def execSet5A (s : State) : Result := .next (setOperandBit .o5 (.reg .a) s)

/-- CB F0 SET 6,B (R512). -/
def execSet6B (s : State) : Result := .next (setOperandBit .o6 (.reg .b) s)

/-- CB F1 SET 6,C (R512). -/
def execSet6C (s : State) : Result := .next (setOperandBit .o6 (.reg .c) s)

/-- CB F2 SET 6,D (R512). -/
def execSet6D (s : State) : Result := .next (setOperandBit .o6 (.reg .d) s)

/-- CB F3 SET 6,E (R512). -/
def execSet6E (s : State) : Result := .next (setOperandBit .o6 (.reg .e) s)

/-- CB F4 SET 6,H (R512). -/
def execSet6H (s : State) : Result := .next (setOperandBit .o6 (.reg .h) s)

/-- CB F5 SET 6,L (R512). -/
def execSet6L (s : State) : Result := .next (setOperandBit .o6 (.reg .l) s)

/-- CB F6 SET 6,(HL) (R512). -/
def execSet6AtHl (s : State) : Result := .next (setOperandBit .o6 .atHl s)

/-- CB F7 SET 6,A (R512). -/
def execSet6A (s : State) : Result := .next (setOperandBit .o6 (.reg .a) s)

/-- CB F8 SET 7,B (R512). -/
def execSet7B (s : State) : Result := .next (setOperandBit .o7 (.reg .b) s)

/-- CB F9 SET 7,C (R512). -/
def execSet7C (s : State) : Result := .next (setOperandBit .o7 (.reg .c) s)

/-- CB FA SET 7,D (R512). -/
def execSet7D (s : State) : Result := .next (setOperandBit .o7 (.reg .d) s)

/-- CB FB SET 7,E (R512). -/
def execSet7E (s : State) : Result := .next (setOperandBit .o7 (.reg .e) s)

/-- CB FC SET 7,H (R512). -/
def execSet7H (s : State) : Result := .next (setOperandBit .o7 (.reg .h) s)

/-- CB FD SET 7,L (R512). -/
def execSet7L (s : State) : Result := .next (setOperandBit .o7 (.reg .l) s)

/-- CB FE SET 7,(HL) (R512). -/
def execSet7AtHl (s : State) : Result := .next (setOperandBit .o7 .atHl s)

/-- CB FF SET 7,A (R512). -/
def execSet7A (s : State) : Result := .next (setOperandBit .o7 (.reg .a) s)

end Sys2Proof.Machine
end

