-- ==== Sys2Proof/Machine/Control.lean ====
section
/-! DEFINITION. Meanings: control transfer (46_control.md R550 to R560). Every target is legal; no instruction here writes F. Each is a function of the state at
the entry of the handler, where pc is the address of the first byte after the opcode (00_scope.md R15); the immediates are the
instruction's own arguments, so a handler advances pc past them (20_memory.md R97). Every handler completes (30_encoding.md R143). -/

namespace Sys2Proof.Machine

/-- `JP nn` (R550). -/
def jumpAbs (nn : Word) (s : State) : State := (s.advance 2).jump nn

/-- `JP cc,nn` (R551). -/
def jumpAbsIf (cc : Cond) (nn : Word) (s : State) : State := if s.cond cc then jumpAbs nn s else s.advance 2

/-- `JR e` (R553): the base is the address after e. -/
def jumpRel (e : Byte) (s : State) : State := (s.advance 1).jump ((s.advance 1).pc + sext16 e)

/-- `JR cc,e` (R554). -/
def jumpRelIf (cc : Cond) (e : Byte) (s : State) : State := if s.cond cc then jumpRel e s else s.advance 1

/-- `CALL nn` (R555): the return address is the one after nn. -/
def callAbs (nn : Word) (s : State) : State := ((s.advance 2).push16 (s.advance 2).pc).jump nn

/-- `CALL cc,nn` (R556). -/
def callAbsIf (cc : Cond) (nn : Word) (s : State) : State := if s.cond cc then callAbs nn s else s.advance 2

/-- `RET` (R557). -/
def returnSub (s : State) : State := s.pop16.2.jump s.pop16.1

/-- `RET cc` (R558). -/
def returnSubIf (cc : Cond) (s : State) : State := if s.cond cc then returnSub s else s

/-- `RST t` (R560). -/
def restart (t : Oct) (s : State) : State := (s.push16 s.pc).jump (rstTarget t)

/-! ## One meaning per row of the opcode table -/

/-- 18 JR e8 (R553). -/
def execJrE8 (e : Byte) (s : State) : Result := .next (jumpRel e s)

/-- 20 JR NZ,e8 (R554). -/
def execJrNzE8 (e : Byte) (s : State) : Result := .next (jumpRelIf .nz e s)

/-- 28 JR Z,e8 (R554). -/
def execJrZE8 (e : Byte) (s : State) : Result := .next (jumpRelIf .z e s)

/-- 30 JR NC,e8 (R554). -/
def execJrNcE8 (e : Byte) (s : State) : Result := .next (jumpRelIf .nc e s)

/-- 38 JR C,e8 (R554). -/
def execJrCE8 (e : Byte) (s : State) : Result := .next (jumpRelIf .c e s)

/-- C0 RET NZ (R558). -/
def execRetNz (s : State) : Result := .next (returnSubIf .nz s)

/-- C2 JP NZ,a16 (R551). -/
def execJpNzA16 (nn : Word) (s : State) : Result := .next (jumpAbsIf .nz nn s)

/-- C3 JP a16 (R550). -/
def execJpA16 (nn : Word) (s : State) : Result := .next (jumpAbs nn s)

/-- C4 CALL NZ,a16 (R556). -/
def execCallNzA16 (nn : Word) (s : State) : Result := .next (callAbsIf .nz nn s)

/-- C7 RST 00H (R560). -/
def execRst00 (s : State) : Result := .next (restart .o0 s)

/-- C8 RET Z (R558). -/
def execRetZ (s : State) : Result := .next (returnSubIf .z s)

/-- C9 RET (R557). -/
def execRet (s : State) : Result := .next (returnSub s)

/-- CA JP Z,a16 (R551). -/
def execJpZA16 (nn : Word) (s : State) : Result := .next (jumpAbsIf .z nn s)

/-- CC CALL Z,a16 (R556). -/
def execCallZA16 (nn : Word) (s : State) : Result := .next (callAbsIf .z nn s)

/-- CD CALL a16 (R555). -/
def execCallA16 (nn : Word) (s : State) : Result := .next (callAbs nn s)

/-- CF RST 08H (R560). -/
def execRst08 (s : State) : Result := .next (restart .o1 s)

/-- D0 RET NC (R558). -/
def execRetNc (s : State) : Result := .next (returnSubIf .nc s)

/-- D2 JP NC,a16 (R551). -/
def execJpNcA16 (nn : Word) (s : State) : Result := .next (jumpAbsIf .nc nn s)

/-- D4 CALL NC,a16 (R556). -/
def execCallNcA16 (nn : Word) (s : State) : Result := .next (callAbsIf .nc nn s)

/-- D7 RST 10H (R560). -/
def execRst10 (s : State) : Result := .next (restart .o2 s)

/-- D8 RET C (R558). -/
def execRetC (s : State) : Result := .next (returnSubIf .c s)

/-- D9 RETI (R559). -/
def execReti (s : State) : Result := .next (s.interruptReturn)

/-- DA JP C,a16 (R551). -/
def execJpCA16 (nn : Word) (s : State) : Result := .next (jumpAbsIf .c nn s)

/-- DC CALL C,a16 (R556). -/
def execCallCA16 (nn : Word) (s : State) : Result := .next (callAbsIf .c nn s)

/-- DF RST 18H (R560). -/
def execRst18 (s : State) : Result := .next (restart .o3 s)

/-- E7 RST 20H (R560). -/
def execRst20 (s : State) : Result := .next (restart .o4 s)

/-- E9 JP HL (R552). -/
def execJpHl (s : State) : Result := .next (s.jump s.hl)

/-- EF RST 28H (R560). -/
def execRst28 (s : State) : Result := .next (restart .o5 s)

/-- F7 RST 30H (R560). -/
def execRst30 (s : State) : Result := .next (restart .o6 s)

/-- FF RST 38H (R560). -/
def execRst38 (s : State) : Result := .next (restart .o7 s)

end Sys2Proof.Machine
end

