-- ==== Sys2Proof/Machine/Load16.lean ====
section
/-! DEFINITION. Meanings: 16-bit loads and stack operations (41_load16_stack.md R250 to R257). Each is a function of the state at
the entry of the handler, where pc is the address of the first byte after the opcode (00_scope.md R15); the immediates are the
instruction's own arguments, so a handler advances pc past them (20_memory.md R97). Every handler completes (30_encoding.md R143). -/

namespace Sys2Proof.Machine

/-- `LD rr,nn` (R250). -/
def ldPairImm (p : Pair) (nn : Word) (s : State) : State := (s.advance 2).setPair p nn

/-- `PUSH rr` (R252). -/
def pushPair (p : StackPair) (s : State) : State := s.push16 (s.stackPair p)

/-- `POP rr` and `POP AF` (R253, R255). -/
def popPair (p : StackPair) (s : State) : State := s.pop16.2.setStackPair p s.pop16.1

/-- `LD HL,SP+e` (R257): Z and N cleared, H and C from the low-byte addition. -/
def ldHlSpDisplacement (e : Byte) (s : State) : State :=
  ((s.advance 1).setHl (addDisplacement s.sp e).r).setFlags false false (addDisplacement s.sp e).h (addDisplacement s.sp e).c

/-! ## One meaning per row of the opcode table -/

/-- 01 LD BC,d16 (R250). -/
def execLdBcD16 (nn : Word) (s : State) : Result := .next (ldPairImm .bc nn s)

/-- 08 LD (a16),SP (R256). -/
def execLdAtA16Sp (nn : Word) (s : State) : Result := .next ((s.advance 2).writeWord nn s.sp)

/-- 11 LD DE,d16 (R250). -/
def execLdDeD16 (nn : Word) (s : State) : Result := .next (ldPairImm .de nn s)

/-- 21 LD HL,d16 (R250). -/
def execLdHlD16 (nn : Word) (s : State) : Result := .next (ldPairImm .hl nn s)

/-- 31 LD SP,d16 (R250). -/
def execLdSpD16 (nn : Word) (s : State) : Result := .next (ldPairImm .sp nn s)

/-- C1 POP BC (R253). -/
def execPopBc (s : State) : Result := .next (popPair .bc s)

/-- C5 PUSH BC (R252). -/
def execPushBc (s : State) : Result := .next (pushPair .bc s)

/-- D1 POP DE (R253). -/
def execPopDe (s : State) : Result := .next (popPair .de s)

/-- D5 PUSH DE (R252). -/
def execPushDe (s : State) : Result := .next (pushPair .de s)

/-- E1 POP HL (R253). -/
def execPopHl (s : State) : Result := .next (popPair .hl s)

/-- E5 PUSH HL (R252). -/
def execPushHl (s : State) : Result := .next (pushPair .hl s)

/-- F1 POP AF (R255). -/
def execPopAf (s : State) : Result := .next (popPair .af s)

/-- F5 PUSH AF (R252). -/
def execPushAf (s : State) : Result := .next (pushPair .af s)

/-- F8 LD HL,SP+e8 (R257). -/
def execLdHlSpE8 (e : Byte) (s : State) : Result := .next (ldHlSpDisplacement e s)

/-- F9 LD SP,HL (R251). -/
def execLdSpHl (s : State) : Result := .next ({ s with sp := s.hl })

end Sys2Proof.Machine
end

