-- ==== Sys2Proof/Machine/Load8.lean ====
section
/-! DEFINITION. Meanings: 8-bit loads (40_load8.md R200 to R218). No load writes a flag. Each is a function of the state at
the entry of the handler, where pc is the address of the first byte after the opcode (00_scope.md R15); the immediates are the
instruction's own arguments, so a handler advances pc past them (20_memory.md R97). Every handler completes (30_encoding.md R143). -/

namespace Sys2Proof.Machine

/-- `LD r,r'` (R200). -/
def ldRegReg (dst src : Reg8) (s : State) : State := s.setReg dst (s.reg src)

/-- `LD r,n` (R201). -/
def ldRegImm (dst : Reg8) (n : Byte) (s : State) : State := (s.advance 1).setReg dst n

/-- `LD r,(HL)` (R202): the address is the HL before the write. -/
def ldRegAtHl (dst : Reg8) (s : State) : State := s.setReg dst (s.readByte s.hl)

/-- `LD (HL),r` (R203). -/
def ldAtHlReg (r : Reg8) (s : State) : State := s.writeByte s.hl (s.reg r)

/-- A from memory (R205, R206, R209, R210, R213, R215, R217). -/
def loadA (addr : Word) (s : State) : State := { s with a := s.readByte addr }

/-- A to memory (R207, R208, R211, R212, R214, R216, R218). -/
def storeA (addr : Word) (s : State) : State := s.writeByte addr s.a

/-! ## One meaning per row of the opcode table -/

/-- 02 LD (BC),A (R207). -/
def execLdAtBcA (s : State) : Result := .next (storeA s.bc s)

/-- 06 LD B,d8 (R201). -/
def execLdBD8 (n : Byte) (s : State) : Result := .next (ldRegImm .b n s)

/-- 0A LD A,(BC) (R205). -/
def execLdAAtBc (s : State) : Result := .next (loadA s.bc s)

/-- 0E LD C,d8 (R201). -/
def execLdCD8 (n : Byte) (s : State) : Result := .next (ldRegImm .c n s)

/-- 12 LD (DE),A (R208). -/
def execLdAtDeA (s : State) : Result := .next (storeA s.de s)

/-- 16 LD D,d8 (R201). -/
def execLdDD8 (n : Byte) (s : State) : Result := .next (ldRegImm .d n s)

/-- 1A LD A,(DE) (R206). -/
def execLdAAtDe (s : State) : Result := .next (loadA s.de s)

/-- 1E LD E,d8 (R201). -/
def execLdED8 (n : Byte) (s : State) : Result := .next (ldRegImm .e n s)

/-- 22 LD (HL+),A (R211). -/
def execLdAtHlIncA (s : State) : Result := .next ((storeA s.hl s).setHl (s.hl + 1))

/-- 26 LD H,d8 (R201). -/
def execLdHD8 (n : Byte) (s : State) : Result := .next (ldRegImm .h n s)

/-- 2A LD A,(HL+) (R209). -/
def execLdAAtHlInc (s : State) : Result := .next ((loadA s.hl s).setHl (s.hl + 1))

/-- 2E LD L,d8 (R201). -/
def execLdLD8 (n : Byte) (s : State) : Result := .next (ldRegImm .l n s)

/-- 32 LD (HL-),A (R212). -/
def execLdAtHlDecA (s : State) : Result := .next ((storeA s.hl s).setHl (s.hl - 1))

/-- 36 LD (HL),d8 (R204). -/
def execLdAtHlD8 (n : Byte) (s : State) : Result := .next ((s.advance 1).writeByte s.hl n)

/-- 3A LD A,(HL-) (R210). -/
def execLdAAtHlDec (s : State) : Result := .next ((loadA s.hl s).setHl (s.hl - 1))

/-- 3E LD A,d8 (R201). -/
def execLdAD8 (n : Byte) (s : State) : Result := .next (ldRegImm .a n s)

/-- 40 LD B,B (R200). -/
def execLdBB (s : State) : Result := .next (ldRegReg .b .b s)

/-- 41 LD B,C (R200). -/
def execLdBC (s : State) : Result := .next (ldRegReg .b .c s)

/-- 42 LD B,D (R200). -/
def execLdBD (s : State) : Result := .next (ldRegReg .b .d s)

/-- 43 LD B,E (R200). -/
def execLdBE (s : State) : Result := .next (ldRegReg .b .e s)

/-- 44 LD B,H (R200). -/
def execLdBH (s : State) : Result := .next (ldRegReg .b .h s)

/-- 45 LD B,L (R200). -/
def execLdBL (s : State) : Result := .next (ldRegReg .b .l s)

/-- 46 LD B,(HL) (R202). -/
def execLdBAtHl (s : State) : Result := .next (ldRegAtHl .b s)

/-- 47 LD B,A (R200). -/
def execLdBA (s : State) : Result := .next (ldRegReg .b .a s)

/-- 48 LD C,B (R200). -/
def execLdCB (s : State) : Result := .next (ldRegReg .c .b s)

/-- 49 LD C,C (R200). -/
def execLdCC (s : State) : Result := .next (ldRegReg .c .c s)

/-- 4A LD C,D (R200). -/
def execLdCD (s : State) : Result := .next (ldRegReg .c .d s)

/-- 4B LD C,E (R200). -/
def execLdCE (s : State) : Result := .next (ldRegReg .c .e s)

/-- 4C LD C,H (R200). -/
def execLdCH (s : State) : Result := .next (ldRegReg .c .h s)

/-- 4D LD C,L (R200). -/
def execLdCL (s : State) : Result := .next (ldRegReg .c .l s)

/-- 4E LD C,(HL) (R202). -/
def execLdCAtHl (s : State) : Result := .next (ldRegAtHl .c s)

/-- 4F LD C,A (R200). -/
def execLdCA (s : State) : Result := .next (ldRegReg .c .a s)

/-- 50 LD D,B (R200). -/
def execLdDB (s : State) : Result := .next (ldRegReg .d .b s)

/-- 51 LD D,C (R200). -/
def execLdDC (s : State) : Result := .next (ldRegReg .d .c s)

/-- 52 LD D,D (R200). -/
def execLdDD (s : State) : Result := .next (ldRegReg .d .d s)

/-- 53 LD D,E (R200). -/
def execLdDE (s : State) : Result := .next (ldRegReg .d .e s)

/-- 54 LD D,H (R200). -/
def execLdDH (s : State) : Result := .next (ldRegReg .d .h s)

/-- 55 LD D,L (R200). -/
def execLdDL (s : State) : Result := .next (ldRegReg .d .l s)

/-- 56 LD D,(HL) (R202). -/
def execLdDAtHl (s : State) : Result := .next (ldRegAtHl .d s)

/-- 57 LD D,A (R200). -/
def execLdDA (s : State) : Result := .next (ldRegReg .d .a s)

/-- 58 LD E,B (R200). -/
def execLdEB (s : State) : Result := .next (ldRegReg .e .b s)

/-- 59 LD E,C (R200). -/
def execLdEC (s : State) : Result := .next (ldRegReg .e .c s)

/-- 5A LD E,D (R200). -/
def execLdED (s : State) : Result := .next (ldRegReg .e .d s)

/-- 5B LD E,E (R200). -/
def execLdEE (s : State) : Result := .next (ldRegReg .e .e s)

/-- 5C LD E,H (R200). -/
def execLdEH (s : State) : Result := .next (ldRegReg .e .h s)

/-- 5D LD E,L (R200). -/
def execLdEL (s : State) : Result := .next (ldRegReg .e .l s)

/-- 5E LD E,(HL) (R202). -/
def execLdEAtHl (s : State) : Result := .next (ldRegAtHl .e s)

/-- 5F LD E,A (R200). -/
def execLdEA (s : State) : Result := .next (ldRegReg .e .a s)

/-- 60 LD H,B (R200). -/
def execLdHB (s : State) : Result := .next (ldRegReg .h .b s)

/-- 61 LD H,C (R200). -/
def execLdHC (s : State) : Result := .next (ldRegReg .h .c s)

/-- 62 LD H,D (R200). -/
def execLdHD (s : State) : Result := .next (ldRegReg .h .d s)

/-- 63 LD H,E (R200). -/
def execLdHE (s : State) : Result := .next (ldRegReg .h .e s)

/-- 64 LD H,H (R200). -/
def execLdHH (s : State) : Result := .next (ldRegReg .h .h s)

/-- 65 LD H,L (R200). -/
def execLdHL (s : State) : Result := .next (ldRegReg .h .l s)

/-- 66 LD H,(HL) (R202). -/
def execLdHAtHl (s : State) : Result := .next (ldRegAtHl .h s)

/-- 67 LD H,A (R200). -/
def execLdHA (s : State) : Result := .next (ldRegReg .h .a s)

/-- 68 LD L,B (R200). -/
def execLdLB (s : State) : Result := .next (ldRegReg .l .b s)

/-- 69 LD L,C (R200). -/
def execLdLC (s : State) : Result := .next (ldRegReg .l .c s)

/-- 6A LD L,D (R200). -/
def execLdLD (s : State) : Result := .next (ldRegReg .l .d s)

/-- 6B LD L,E (R200). -/
def execLdLE (s : State) : Result := .next (ldRegReg .l .e s)

/-- 6C LD L,H (R200). -/
def execLdLH (s : State) : Result := .next (ldRegReg .l .h s)

/-- 6D LD L,L (R200). -/
def execLdLL (s : State) : Result := .next (ldRegReg .l .l s)

/-- 6E LD L,(HL) (R202). -/
def execLdLAtHl (s : State) : Result := .next (ldRegAtHl .l s)

/-- 6F LD L,A (R200). -/
def execLdLA (s : State) : Result := .next (ldRegReg .l .a s)

/-- 70 LD (HL),B (R203). -/
def execLdAtHlB (s : State) : Result := .next (ldAtHlReg .b s)

/-- 71 LD (HL),C (R203). -/
def execLdAtHlC (s : State) : Result := .next (ldAtHlReg .c s)

/-- 72 LD (HL),D (R203). -/
def execLdAtHlD (s : State) : Result := .next (ldAtHlReg .d s)

/-- 73 LD (HL),E (R203). -/
def execLdAtHlE (s : State) : Result := .next (ldAtHlReg .e s)

/-- 74 LD (HL),H (R203). -/
def execLdAtHlH (s : State) : Result := .next (ldAtHlReg .h s)

/-- 75 LD (HL),L (R203). -/
def execLdAtHlL (s : State) : Result := .next (ldAtHlReg .l s)

/-- 77 LD (HL),A (R203). -/
def execLdAtHlA (s : State) : Result := .next (ldAtHlReg .a s)

/-- 78 LD A,B (R200). -/
def execLdAB (s : State) : Result := .next (ldRegReg .a .b s)

/-- 79 LD A,C (R200). -/
def execLdAC (s : State) : Result := .next (ldRegReg .a .c s)

/-- 7A LD A,D (R200). -/
def execLdAD (s : State) : Result := .next (ldRegReg .a .d s)

/-- 7B LD A,E (R200). -/
def execLdAE (s : State) : Result := .next (ldRegReg .a .e s)

/-- 7C LD A,H (R200). -/
def execLdAH (s : State) : Result := .next (ldRegReg .a .h s)

/-- 7D LD A,L (R200). -/
def execLdAL (s : State) : Result := .next (ldRegReg .a .l s)

/-- 7E LD A,(HL) (R202). -/
def execLdAAtHl (s : State) : Result := .next (ldRegAtHl .a s)

/-- 7F LD A,A (R200). -/
def execLdAA (s : State) : Result := .next (ldRegReg .a .a s)

/-- E0 LDH (a8),A (R216). -/
def execLdhAtA8A (n : Byte) (s : State) : Result := .next (storeA (highPage n) (s.advance 1))

/-- E2 LDH (C),A (R214). -/
def execLdhAtCA (s : State) : Result := .next (storeA (highPage s.c) s)

/-- EA LD (a16),A (R218). -/
def execLdAtA16A (nn : Word) (s : State) : Result := .next (storeA nn (s.advance 2))

/-- F0 LDH A,(a8) (R215). -/
def execLdhAAtA8 (n : Byte) (s : State) : Result := .next (loadA (highPage n) (s.advance 1))

/-- F2 LDH A,(C) (R213). -/
def execLdhAAtC (s : State) : Result := .next (loadA (highPage s.c) s)

/-- FA LD A,(a16) (R217). -/
def execLdAAtA16 (nn : Word) (s : State) : Result := .next (loadA nn (s.advance 2))

end Sys2Proof.Machine
end

