-- ==== Sys2Proof/Machine/RotateMisc.lean ====
section
/-! DEFINITION. Meanings: accumulator rotates and flag operations (44_rotate_misc.md R450 to R457). Each is a function of the state at
the entry of the handler, where pc is the address of the first byte after the opcode (00_scope.md R15); the immediates are the
instruction's own arguments, so a handler advances pc past them (20_memory.md R97). Every handler completes (30_encoding.md R143). -/

namespace Sys2Proof.Machine

/-- RLCA, RRCA, RLA and RRA (R450 to R453): Z is cleared, not computed. -/
def accRotate (r : Byte × Bool) (s : State) : State := { s with a := r.1 }.setFlags false false false r.2

/-- `DAA` (R454): N unchanged, H cleared. -/
def decimalAdjust (s : State) : State :=
  { s with a := (daaResult s.a s.nf s.hf s.cf).1 }.setFlags (isZero (daaResult s.a s.nf s.hf s.cf).1) s.nf false
    (daaResult s.a s.nf s.hf s.cf).2

/-! ## One meaning per row of the opcode table -/

/-- 07 RLCA (R450). -/
def execRlca (s : State) : Result := .next (accRotate (rlcaResult s.a) s)

/-- 0F RRCA (R451). -/
def execRrca (s : State) : Result := .next (accRotate (rrcaResult s.a) s)

/-- 17 RLA (R452). -/
def execRla (s : State) : Result := .next (accRotate (rlaResult s.a s.cf) s)

/-- 1F RRA (R453). -/
def execRra (s : State) : Result := .next (accRotate (rraResult s.a s.cf) s)

/-- 27 DAA (R454). -/
def execDaa (s : State) : Result := .next (decimalAdjust s)

/-- 2F CPL (R455). -/
def execCpl (s : State) : Result := .next ({ s with a := ~~~s.a }.setFlags s.zf true true s.cf)

/-- 37 SCF (R456). -/
def execScf (s : State) : Result := .next (s.setFlags s.zf false false true)

/-- 3F CCF (R457). -/
def execCcf (s : State) : Result := .next (s.setFlags s.zf false false (!s.cf))

end Sys2Proof.Machine
end

