-- ==== Sys2Proof/Machine/System.lean ====
section
/-! DEFINITION. Meanings: system instructions and the holes of the opcode map (47_system.md R600 to R605). Each is a function of the state at
the entry of the handler, where pc is the address of the first byte after the opcode (00_scope.md R15); the immediates are the
instruction's own arguments, so a handler advances pc past them (20_memory.md R97). Every handler completes (30_encoding.md R143). -/

namespace Sys2Proof.Machine

/-- `HALT` (R601): under FULL with IME = 0 and a request sampled at this boundary, the halt bug; otherwise Halted. -/
def haltCore (s : State) : State :=
  if s.params.profile = .full ∧ s.ime = false ∧ s.irqNow ≠ none then { s with haltBug := true }
  else { s with runState := .halted }

/-- `STOP` (R602): its second byte is consumed, whatever its value; last_error is not written. -/
def stopCore (s : State) : State := { s.advance 1 with runState := .stopped }

/-- A hole (R603): DecodeFailure at the opcode. No handler is entered, so pc is still the address of the hole (60_exceptions.md R704). -/
def hole (code : Byte) (s : State) : State := s.raiseError .decodeFailure code

/-! ## One meaning per row of the opcode table -/

/-- 00 NOP (R600). -/
def execNop (s : State) : Result := .next s

/-- 10 STOP (R602). -/
def execStop (_ignored : Byte) (s : State) : Result := .next (stopCore s)

/-- 76 HALT (R601). -/
def execHalt (s : State) : Result := .next (haltCore s)

/-- D3 hole (R603). -/
def execHoleD3 (s : State) : Result := .next (hole 0xD3 s)

/-- DB hole (R603). -/
def execHoleDB (s : State) : Result := .next (hole 0xDB s)

/-- DD hole (R603). -/
def execHoleDD (s : State) : Result := .next (hole 0xDD s)

/-- E3 hole (R603). -/
def execHoleE3 (s : State) : Result := .next (hole 0xE3 s)

/-- E4 hole (R603). -/
def execHoleE4 (s : State) : Result := .next (hole 0xE4 s)

/-- EB hole (R603). -/
def execHoleEB (s : State) : Result := .next (hole 0xEB s)

/-- EC hole (R603). -/
def execHoleEC (s : State) : Result := .next (hole 0xEC s)

/-- ED hole (R603). -/
def execHoleED (s : State) : Result := .next (hole 0xED s)

/-- F3 DI (R604). -/
def execDi (s : State) : Result := .next ({ s with ime := false, imePending := false })

/-- F4 hole (R603). -/
def execHoleF4 (s : State) : Result := .next (hole 0xF4 s)

/-- FB EI (R605). -/
def execEi (s : State) : Result := .next ({ s with imePending := true })

/-- FC hole (R603). -/
def execHoleFC (s : State) : Result := .next (hole 0xFC s)

/-- FD hole (R603). -/
def execHoleFD (s : State) : Result := .next (hole 0xFD s)

end Sys2Proof.Machine
end

