-- ==== Sys2Proof/WellFormed.lean ====
section
/-! DEFINITION. Which terms of `Instr` are complete instructions of a profile. Every argument of a constructor takes every
value of its type in some encoding, so well-formedness has two checks only: the term is not the bare 0xCB byte, which is
an instruction only together with its second byte (30_encoding.md R133), and the decoder of the profile gives the row an
effect of its own: a handler, or for a hole DecodeFailure (R129, R130, R132). -/

namespace Sys2Proof

/-- The eleven bytes that are no LR35902 instruction (30_encoding.md R132, 47_system.md R603). -/
def Instr.isHole : Instr → Bool
  | .holeD3 | .holeDB | .holeDD | .holeE3 | .holeE4 | .holeEB | .holeEC | .holeED | .holeF4 | .holeFC | .holeFD => true
  | _ => false

/-- The rows of profile DOC in spec/opcode_table.json: the 110 opcodes the source specifies (R8, R129). -/
def Instr.inDoc : Instr → Bool
  | .ldBcD16 _ | .ldAtBcA | .ldBD8 _ | .ldAtA16Sp _ | .ldAAtBc | .ldCD8 _ | .ldDeD16 _ | .ldAtDeA | .ldDD8 _
  | .ldAAtDe | .ldED8 _ | .ldHlD16 _ | .ldAtHlIncA | .ldHD8 _ | .ldAAtHlInc | .ldLD8 _ | .ldSpD16 _
  | .ldAtHlDecA | .ldAtHlD8 _ | .ldAAtHlDec | .ldAD8 _ | .ldBB | .ldBC | .ldBD | .ldBE | .ldBH | .ldBL
  | .ldBAtHl | .ldBA | .ldCB | .ldCC | .ldCD | .ldCE | .ldCH | .ldCL | .ldCAtHl | .ldCA | .ldDB | .ldDC | .ldDD
  | .ldDE | .ldDH | .ldDL | .ldDAtHl | .ldDA | .ldEB | .ldEC | .ldED | .ldEE | .ldEH | .ldEL | .ldEAtHl | .ldEA
  | .ldHB | .ldHC | .ldHD | .ldHE | .ldHH | .ldHL | .ldHAtHl | .ldHA | .ldLB | .ldLC | .ldLD | .ldLE | .ldLH
  | .ldLL | .ldLAtHl | .ldLA | .ldAtHlB | .ldAtHlC | .ldAtHlD | .ldAtHlE | .ldAtHlH | .ldAtHlL | .halt
  | .ldAtHlA | .ldAB | .ldAC | .ldAD | .ldAE | .ldAH | .ldAL | .ldAAtHl | .ldAA | .addAB | .addAC | .addAD
  | .addAE | .addAH | .addAL | .addAAtHl | .addAA | .popBc | .pushBc | .addAD8 _ | .popDe | .pushDe
  | .ldhAtA8A _ | .popHl | .ldhAtCA | .pushHl | .ldAtA16A _ | .ldhAAtA8 _ | .popAf | .ldhAAtC | .pushAf
  | .ldHlSpE8 _ | .ldSpHl | .ldAAtA16 _ => true
  | _ => false

/-- A complete instruction: any row but the bare byte 0xCB (R133). -/
def Instr.isComplete : Instr → Bool
  | .prefixCb => false
  | _ => true

/-- The profile's decoder reaches the row: under DOC the other legal rows are Unimplemented (R130, R134). -/
def Instr.isInProfile : Profile → Instr → Bool
  | .full, _ => true
  | .doc, i => i.inDoc || i.isHole

/-- A term that the decoder of the profile can answer. -/
def Instr.wellFormed (p : Profile) (i : Instr) : Bool :=
  i.isComplete && i.isInProfile p

end Sys2Proof
end

