-- ==== Sys2Proof/Decode.lean ====
section
/-! DEFINITION. The decoder (30_encoding.md R120 to R137) and, after it, the encoder, written from the other copy the spec
gives of the encodings, the rows of spec/opcode_table.json. The decoder follows the field patterns of R129 (DOC), R131 (FULL)
and R133 (the CB space); it is total on any bytes (R134). It is handed the opcode byte and the two bytes that its immediates
would be read from (20_memory.md R97): reading them has no side effect (R89), so reading one too many cannot be seen. -/

namespace Sys2Proof

/-- What the decoder answers for an opcode byte (R128): a row of the table, or the error Unimplemented. A hole is a row of the
table; its DecodeFailure is what the row does (47_system.md R603). -/
inductive Decoded where
  | instr (i : Instr)
  | unimplemented (byte : Byte)
  deriving DecidableEq, Repr

/-! ## FULL -/

/-- The rows of quadrant op = 00 by x and y (R131). -/
def decodeQuad0 (x y : Nat) (b1 : Byte) (nn : Word) : Instr :=
  match y with
  | 0 =>
    match x with
    | 0 => .nop
    | 1 => .ldAtA16Sp nn
    | 2 => .stop b1
    | 3 => .jrE8 b1
    | _ => Instr.jrCond (Cond.ofCode (x % 4)) b1
  | 1 => if x % 2 = 0 then Instr.ldPairImm (Pair.ofCode (x / 2)) nn else Instr.addHlPair (Pair.ofCode (x / 2))
  | 2 =>
    match x with
    | 0 => .ldAtBcA
    | 1 => .ldAAtBc
    | 2 => .ldAtDeA
    | 3 => .ldAAtDe
    | 4 => .ldAtHlIncA
    | 5 => .ldAAtHlInc
    | 6 => .ldAtHlDecA
    | _ => .ldAAtHlDec
  | 3 => if x % 2 = 0 then Instr.incPair (Pair.ofCode (x / 2)) else Instr.decPair (Pair.ofCode (x / 2))
  | 4 => Instr.incOp (Operand8.ofCode x)
  | 5 => Instr.decOp (Operand8.ofCode x)
  | 6 => if x = 6 then .ldAtHlD8 b1 else Instr.ldRegImm (Reg8.ofCode x) b1
  | _ =>
    match x with
    | 0 => .rlca
    | 1 => .rrca
    | 2 => .rla
    | 3 => .rra
    | 4 => .daa
    | 5 => .cpl
    | 6 => .scf
    | _ => .ccf

/-- The rows of quadrant op = 01: HALT first, then the (HL) forms, then the catch-all move (R129 rows 1 to 4, R131). -/
def decodeQuad1 (x y : Nat) : Instr :=
  if x = 6 ∧ y = 6 then .halt
  else if y = 6 then Instr.ldRegAtHl (Reg8.ofCode x)
  else if x = 6 then Instr.ldAtHlReg (Reg8.ofCode y)
  else Instr.ldRegReg (Reg8.ofCode x) (Reg8.ofCode y)

/-- The rows of quadrant op = 11 by x and y (R131), the eleven holes of R132 among them. -/
def decodeQuad3 (x y : Nat) (b1 : Byte) (nn : Word) : Instr :=
  match y with
  | 0 =>
    match x with
    | 4 => .ldhAtA8A b1
    | 5 => .addSpE8 b1
    | 6 => .ldhAAtA8 b1
    | 7 => .ldHlSpE8 b1
    | _ => Instr.retCond (Cond.ofCode x)
  | 1 =>
    match x with
    | 1 => .ret
    | 3 => .reti
    | 5 => .jpHl
    | 7 => .ldSpHl
    | _ => Instr.pop (StackPair.ofCode (x / 2))
  | 2 =>
    match x with
    | 4 => .ldhAtCA
    | 5 => .ldAtA16A nn
    | 6 => .ldhAAtC
    | 7 => .ldAAtA16 nn
    | _ => Instr.jpCond (Cond.ofCode x) nn
  | 3 =>
    match x with
    | 0 => .jpA16 nn
    | 1 => .prefixCb
    | 2 => .holeD3
    | 3 => .holeDB
    | 4 => .holeE3
    | 5 => .holeEB
    | 6 => .di
    | _ => .ei
  | 4 =>
    match x with
    | 4 => .holeE4
    | 5 => .holeEC
    | 6 => .holeF4
    | 7 => .holeFC
    | _ => Instr.callCond (Cond.ofCode x) nn
  | 5 =>
    match x with
    | 1 => .callA16 nn
    | 3 => .holeDD
    | 5 => .holeED
    | 7 => .holeFD
    | _ => Instr.push (StackPair.ofCode (x / 2))
  | 6 => Instr.aluImm (AluOp.ofCode x) b1
  | _ => Instr.rst (Oct.ofCode x)

/-- The base opcode space under FULL (R131): the row of an opcode byte, with the immediates of its form taken from the two
bytes after it, a 16-bit one in WORD_ORDER (R126, R127). -/
def decodeBase (o : WordOrder) (c b1 b2 : Byte) : Instr :=
  match opField c with
  | 0 => decodeQuad0 (xField c) (yField c) b1 (wordOfBytes o b1 b2)
  | 1 => decodeQuad1 (xField c) (yField c)
  | 2 => Instr.alu (AluOp.ofCode (xField c)) (Operand8.ofCode (yField c))
  | _ => decodeQuad3 (xField c) (yField c) b1 (wordOfBytes o b1 b2)

/-- The CB space: the row of a second byte (R133). All 256 are instructions. -/
def decodeCb (c : Byte) : Instr :=
  match opField c with
  | 0 => Instr.rot (RotOp.ofCode (xField c)) (Operand8.ofCode (yField c))
  | 1 => Instr.bit (Oct.ofCode (xField c)) (Operand8.ofCode (yField c))
  | 2 => Instr.res (Oct.ofCode (xField c)) (Operand8.ofCode (yField c))
  | _ => Instr.set (Oct.ofCode (xField c)) (Operand8.ofCode (yField c))

/-! ## DOC -/

/-- The ordered pattern list of DOC (R129, rows 1 to 29): the first row that matches op, x and y; none where no row does. -/
def decodeDocPattern (op x y : Nat) (b1 : Byte) (nn : Word) : Option Instr :=
  match op, x, y with
  | 1, 6, 6 => some .halt
  | 1, x, 6 => some (Instr.ldRegAtHl (Reg8.ofCode x))
  | 1, 6, y => some (Instr.ldAtHlReg (Reg8.ofCode y))
  | 1, x, y => some (Instr.ldRegReg (Reg8.ofCode x) (Reg8.ofCode y))
  | 0, 6, 6 => some (.ldAtHlD8 b1)
  | 0, x, 6 => some (Instr.ldRegImm (Reg8.ofCode x) b1)
  | 0, x, 1 => if x % 2 = 0 then some (Instr.ldPairImm (Pair.ofCode (x / 2)) nn) else none
  | 0, 0, 2 => some .ldAtBcA
  | 0, 1, 2 => some .ldAAtBc
  | 0, 2, 2 => some .ldAtDeA
  | 0, 3, 2 => some .ldAAtDe
  | 0, 4, 2 => some .ldAtHlIncA
  | 0, 5, 2 => some .ldAAtHlInc
  | 0, 6, 2 => some .ldAtHlDecA
  | 0, 7, 2 => some .ldAAtHlDec
  | 0, 1, 0 => some (.ldAtA16Sp nn)
  | 2, 0, 6 => some .addAAtHl
  | 2, 0, y => some (Instr.alu .add (.reg (Reg8.ofCode y)))
  | 3, 0, 6 => some (.addAD8 b1)
  | 3, 4, 0 => some (.ldhAtA8A b1)
  | 3, 6, 0 => some (.ldhAAtA8 b1)
  | 3, 4, 2 => some .ldhAtCA
  | 3, 6, 2 => some .ldhAAtC
  | 3, 5, 2 => some (.ldAtA16A nn)
  | 3, 7, 2 => some (.ldAAtA16 nn)
  | 3, 7, 0 => some (.ldHlSpE8 b1)
  | 3, 7, 1 => some .ldSpHl
  | 3, x, 5 => if x % 2 = 0 then some (Instr.push (StackPair.ofCode (x / 2))) else none
  | 3, x, 1 => if x % 2 = 0 then some (Instr.pop (StackPair.ofCode (x / 2))) else none
  | _, _, _ => none

/-- The decoder of DOC: the pattern list, and for a byte that no pattern matches the classification of R130: a hole, or a
legal opcode outside the DOC set, which is Unimplemented. -/
def decodeDoc (o : WordOrder) (c b1 b2 : Byte) : Decoded :=
  match decodeDocPattern (opField c) (xField c) (yField c) b1 (wordOfBytes o b1 b2) with
  | some i => .instr i
  | none => if (decodeBase o c b1 b2).isHole then .instr (decodeBase o c b1 b2) else .unimplemented c

/-! ## The decoder -/

/-- The decoder's answer for one opcode byte (R128, R134). For 0xCB under FULL it is the row of that byte, whose second byte is
still to be read. -/
def decodeOpcode (p : Profile) (o : WordOrder) (c b1 b2 : Byte) : Decoded :=
  match p with
  | .full => .instr (decodeBase o c b1 b2)
  | .doc => decodeDoc o c b1 b2

/-- The complete instruction at an opcode byte and the two bytes after it: after 0xCB the second byte selects it, and the two
bytes are one instruction (R133, R137). -/
def decode (p : Profile) (o : WordOrder) (c b1 b2 : Byte) : Decoded :=
  match decodeOpcode p o c b1 b2 with
  | .instr .prefixCb => .instr (decodeCb b1)
  | d => d

/-! ## Lengths and the encoder, from the rows of spec/opcode_table.json -/

/-- The `length` column (R120, R145), in bytes. -/
def Instr.length : Instr → Nat
  | .ldBcD16 _ | .ldAtA16Sp _ | .ldDeD16 _ | .ldHlD16 _ | .ldSpD16 _ | .jpNzA16 _ | .jpA16 _ | .callNzA16 _
  | .jpZA16 _ | .callZA16 _ | .callA16 _ | .jpNcA16 _ | .callNcA16 _ | .jpCA16 _ | .callCA16 _ | .ldAtA16A _
  | .ldAAtA16 _ => 3
  | .ldBD8 _ | .ldCD8 _ | .stop _ | .ldDD8 _ | .jrE8 _ | .ldED8 _ | .jrNzE8 _ | .ldHD8 _ | .jrZE8 _ | .ldLD8 _
  | .jrNcE8 _ | .ldAtHlD8 _ | .jrCE8 _ | .ldAD8 _ | .addAD8 _ | .adcAD8 _ | .subD8 _ | .sbcAD8 _ | .ldhAtA8A _
  | .andD8 _ | .addSpE8 _ | .xorD8 _ | .ldhAAtA8 _ | .orD8 _ | .ldHlSpE8 _ | .cpD8 _ => 2
  | .rlcB | .rlcC | .rlcD | .rlcE | .rlcH | .rlcL | .rlcAtHl | .rlcA | .rrcB | .rrcC | .rrcD | .rrcE | .rrcH
  | .rrcL | .rrcAtHl | .rrcA | .rlB | .rlC | .rlD | .rlE | .rlH | .rlL | .rlAtHl | .rlA | .rrB | .rrC | .rrD
  | .rrE | .rrH | .rrL | .rrAtHl | .rrA | .slaB | .slaC | .slaD | .slaE | .slaH | .slaL | .slaAtHl | .slaA
  | .sraB | .sraC | .sraD | .sraE | .sraH | .sraL | .sraAtHl | .sraA | .swapB | .swapC | .swapD | .swapE
  | .swapH | .swapL | .swapAtHl | .swapA | .srlB | .srlC | .srlD | .srlE | .srlH | .srlL | .srlAtHl | .srlA
  | .bit0B | .bit0C | .bit0D | .bit0E | .bit0H | .bit0L | .bit0AtHl | .bit0A | .bit1B | .bit1C | .bit1D
  | .bit1E | .bit1H | .bit1L | .bit1AtHl | .bit1A | .bit2B | .bit2C | .bit2D | .bit2E | .bit2H | .bit2L
  | .bit2AtHl | .bit2A | .bit3B | .bit3C | .bit3D | .bit3E | .bit3H | .bit3L | .bit3AtHl | .bit3A | .bit4B
  | .bit4C | .bit4D | .bit4E | .bit4H | .bit4L | .bit4AtHl | .bit4A | .bit5B | .bit5C | .bit5D | .bit5E
  | .bit5H | .bit5L | .bit5AtHl | .bit5A | .bit6B | .bit6C | .bit6D | .bit6E | .bit6H | .bit6L | .bit6AtHl
  | .bit6A | .bit7B | .bit7C | .bit7D | .bit7E | .bit7H | .bit7L | .bit7AtHl | .bit7A | .res0B | .res0C
  | .res0D | .res0E | .res0H | .res0L | .res0AtHl | .res0A | .res1B | .res1C | .res1D | .res1E | .res1H
  | .res1L | .res1AtHl | .res1A | .res2B | .res2C | .res2D | .res2E | .res2H | .res2L | .res2AtHl | .res2A
  | .res3B | .res3C | .res3D | .res3E | .res3H | .res3L | .res3AtHl | .res3A | .res4B | .res4C | .res4D
  | .res4E | .res4H | .res4L | .res4AtHl | .res4A | .res5B | .res5C | .res5D | .res5E | .res5H | .res5L
  | .res5AtHl | .res5A | .res6B | .res6C | .res6D | .res6E | .res6H | .res6L | .res6AtHl | .res6A | .res7B
  | .res7C | .res7D | .res7E | .res7H | .res7L | .res7AtHl | .res7A | .set0B | .set0C | .set0D | .set0E
  | .set0H | .set0L | .set0AtHl | .set0A | .set1B | .set1C | .set1D | .set1E | .set1H | .set1L | .set1AtHl
  | .set1A | .set2B | .set2C | .set2D | .set2E | .set2H | .set2L | .set2AtHl | .set2A | .set3B | .set3C
  | .set3D | .set3E | .set3H | .set3L | .set3AtHl | .set3A | .set4B | .set4C | .set4D | .set4E | .set4H
  | .set4L | .set4AtHl | .set4A | .set5B | .set5C | .set5D | .set5E | .set5H | .set5L | .set5AtHl | .set5A
  | .set6B | .set6C | .set6D | .set6E | .set6H | .set6L | .set6AtHl | .set6A | .set7B | .set7C | .set7D
  | .set7E | .set7H | .set7L | .set7AtHl | .set7A => 2
  | _ => 1

/-- The bytes of an instruction, lowest address first: the row's opcode byte or bytes, then its immediate (R120, R126, R145). -/
def encode (o : WordOrder) (i : Instr) : List Byte :=
  match i with
  | .nop => [0x00] | .ldBcD16 nn => 0x01 :: wordBytes o nn | .ldAtBcA => [0x02] | .incBc => [0x03]
  | .incB => [0x04] | .decB => [0x05] | .ldBD8 n => [0x06, n] | .rlca => [0x07]
  | .ldAtA16Sp nn => 0x08 :: wordBytes o nn | .addHlBc => [0x09] | .ldAAtBc => [0x0A] | .decBc => [0x0B]
  | .incC => [0x0C] | .decC => [0x0D] | .ldCD8 n => [0x0E, n] | .rrca => [0x0F]
  | .stop ignored => [0x10, ignored] | .ldDeD16 nn => 0x11 :: wordBytes o nn | .ldAtDeA => [0x12]
  | .incDe => [0x13] | .incD => [0x14] | .decD => [0x15] | .ldDD8 n => [0x16, n] | .rla => [0x17]
  | .jrE8 e => [0x18, e] | .addHlDe => [0x19] | .ldAAtDe => [0x1A] | .decDe => [0x1B] | .incE => [0x1C]
  | .decE => [0x1D] | .ldED8 n => [0x1E, n] | .rra => [0x1F] | .jrNzE8 e => [0x20, e]
  | .ldHlD16 nn => 0x21 :: wordBytes o nn | .ldAtHlIncA => [0x22] | .incHl => [0x23] | .incH => [0x24]
  | .decH => [0x25] | .ldHD8 n => [0x26, n] | .daa => [0x27] | .jrZE8 e => [0x28, e] | .addHlHl => [0x29]
  | .ldAAtHlInc => [0x2A] | .decHl => [0x2B] | .incL => [0x2C] | .decL => [0x2D] | .ldLD8 n => [0x2E, n]
  | .cpl => [0x2F] | .jrNcE8 e => [0x30, e] | .ldSpD16 nn => 0x31 :: wordBytes o nn | .ldAtHlDecA => [0x32]
  | .incSp => [0x33] | .incAtHl => [0x34] | .decAtHl => [0x35] | .ldAtHlD8 n => [0x36, n] | .scf => [0x37]
  | .jrCE8 e => [0x38, e] | .addHlSp => [0x39] | .ldAAtHlDec => [0x3A] | .decSp => [0x3B] | .incA => [0x3C]
  | .decA => [0x3D] | .ldAD8 n => [0x3E, n] | .ccf => [0x3F] | .ldBB => [0x40] | .ldBC => [0x41]
  | .ldBD => [0x42] | .ldBE => [0x43] | .ldBH => [0x44] | .ldBL => [0x45] | .ldBAtHl => [0x46]
  | .ldBA => [0x47] | .ldCB => [0x48] | .ldCC => [0x49] | .ldCD => [0x4A] | .ldCE => [0x4B] | .ldCH => [0x4C]
  | .ldCL => [0x4D] | .ldCAtHl => [0x4E] | .ldCA => [0x4F] | .ldDB => [0x50] | .ldDC => [0x51]
  | .ldDD => [0x52] | .ldDE => [0x53] | .ldDH => [0x54] | .ldDL => [0x55] | .ldDAtHl => [0x56]
  | .ldDA => [0x57] | .ldEB => [0x58] | .ldEC => [0x59] | .ldED => [0x5A] | .ldEE => [0x5B] | .ldEH => [0x5C]
  | .ldEL => [0x5D] | .ldEAtHl => [0x5E] | .ldEA => [0x5F] | .ldHB => [0x60] | .ldHC => [0x61]
  | .ldHD => [0x62] | .ldHE => [0x63] | .ldHH => [0x64] | .ldHL => [0x65] | .ldHAtHl => [0x66]
  | .ldHA => [0x67] | .ldLB => [0x68] | .ldLC => [0x69] | .ldLD => [0x6A] | .ldLE => [0x6B] | .ldLH => [0x6C]
  | .ldLL => [0x6D] | .ldLAtHl => [0x6E] | .ldLA => [0x6F] | .ldAtHlB => [0x70] | .ldAtHlC => [0x71]
  | .ldAtHlD => [0x72] | .ldAtHlE => [0x73] | .ldAtHlH => [0x74] | .ldAtHlL => [0x75] | .halt => [0x76]
  | .ldAtHlA => [0x77] | .ldAB => [0x78] | .ldAC => [0x79] | .ldAD => [0x7A] | .ldAE => [0x7B]
  | .ldAH => [0x7C] | .ldAL => [0x7D] | .ldAAtHl => [0x7E] | .ldAA => [0x7F] | .addAB => [0x80]
  | .addAC => [0x81] | .addAD => [0x82] | .addAE => [0x83] | .addAH => [0x84] | .addAL => [0x85]
  | .addAAtHl => [0x86] | .addAA => [0x87] | .adcAB => [0x88] | .adcAC => [0x89] | .adcAD => [0x8A]
  | .adcAE => [0x8B] | .adcAH => [0x8C] | .adcAL => [0x8D] | .adcAAtHl => [0x8E] | .adcAA => [0x8F]
  | .subB => [0x90] | .subC => [0x91] | .subD => [0x92] | .subE => [0x93] | .subH => [0x94] | .subL => [0x95]
  | .subAtHl => [0x96] | .subA => [0x97] | .sbcAB => [0x98] | .sbcAC => [0x99] | .sbcAD => [0x9A]
  | .sbcAE => [0x9B] | .sbcAH => [0x9C] | .sbcAL => [0x9D] | .sbcAAtHl => [0x9E] | .sbcAA => [0x9F]
  | .andB => [0xA0] | .andC => [0xA1] | .andD => [0xA2] | .andE => [0xA3] | .andH => [0xA4] | .andL => [0xA5]
  | .andAtHl => [0xA6] | .andA => [0xA7] | .xorB => [0xA8] | .xorC => [0xA9] | .xorD => [0xAA]
  | .xorE => [0xAB] | .xorH => [0xAC] | .xorL => [0xAD] | .xorAtHl => [0xAE] | .xorA => [0xAF] | .orB => [0xB0]
  | .orC => [0xB1] | .orD => [0xB2] | .orE => [0xB3] | .orH => [0xB4] | .orL => [0xB5] | .orAtHl => [0xB6]
  | .orA => [0xB7] | .cpB => [0xB8] | .cpC => [0xB9] | .cpD => [0xBA] | .cpE => [0xBB] | .cpH => [0xBC]
  | .cpL => [0xBD] | .cpAtHl => [0xBE] | .cpA => [0xBF] | .retNz => [0xC0] | .popBc => [0xC1]
  | .jpNzA16 nn => 0xC2 :: wordBytes o nn | .jpA16 nn => 0xC3 :: wordBytes o nn
  | .callNzA16 nn => 0xC4 :: wordBytes o nn | .pushBc => [0xC5] | .addAD8 n => [0xC6, n] | .rst00 => [0xC7]
  | .retZ => [0xC8] | .ret => [0xC9] | .jpZA16 nn => 0xCA :: wordBytes o nn | .prefixCb => [0xCB]
  | .callZA16 nn => 0xCC :: wordBytes o nn | .callA16 nn => 0xCD :: wordBytes o nn | .adcAD8 n => [0xCE, n]
  | .rst08 => [0xCF] | .retNc => [0xD0] | .popDe => [0xD1] | .jpNcA16 nn => 0xD2 :: wordBytes o nn
  | .holeD3 => [0xD3] | .callNcA16 nn => 0xD4 :: wordBytes o nn | .pushDe => [0xD5] | .subD8 n => [0xD6, n]
  | .rst10 => [0xD7] | .retC => [0xD8] | .reti => [0xD9] | .jpCA16 nn => 0xDA :: wordBytes o nn
  | .holeDB => [0xDB] | .callCA16 nn => 0xDC :: wordBytes o nn | .holeDD => [0xDD] | .sbcAD8 n => [0xDE, n]
  | .rst18 => [0xDF] | .ldhAtA8A n => [0xE0, n] | .popHl => [0xE1] | .ldhAtCA => [0xE2] | .holeE3 => [0xE3]
  | .holeE4 => [0xE4] | .pushHl => [0xE5] | .andD8 n => [0xE6, n] | .rst20 => [0xE7] | .addSpE8 e => [0xE8, e]
  | .jpHl => [0xE9] | .ldAtA16A nn => 0xEA :: wordBytes o nn | .holeEB => [0xEB] | .holeEC => [0xEC]
  | .holeED => [0xED] | .xorD8 n => [0xEE, n] | .rst28 => [0xEF] | .ldhAAtA8 n => [0xF0, n] | .popAf => [0xF1]
  | .ldhAAtC => [0xF2] | .di => [0xF3] | .holeF4 => [0xF4] | .pushAf => [0xF5] | .orD8 n => [0xF6, n]
  | .rst30 => [0xF7] | .ldHlSpE8 e => [0xF8, e] | .ldSpHl => [0xF9] | .ldAAtA16 nn => 0xFA :: wordBytes o nn
  | .ei => [0xFB] | .holeFC => [0xFC] | .holeFD => [0xFD] | .cpD8 n => [0xFE, n] | .rst38 => [0xFF]
  | .rlcB => [0xCB, 0x00] | .rlcC => [0xCB, 0x01] | .rlcD => [0xCB, 0x02] | .rlcE => [0xCB, 0x03]
  | .rlcH => [0xCB, 0x04] | .rlcL => [0xCB, 0x05] | .rlcAtHl => [0xCB, 0x06] | .rlcA => [0xCB, 0x07]
  | .rrcB => [0xCB, 0x08] | .rrcC => [0xCB, 0x09] | .rrcD => [0xCB, 0x0A] | .rrcE => [0xCB, 0x0B]
  | .rrcH => [0xCB, 0x0C] | .rrcL => [0xCB, 0x0D] | .rrcAtHl => [0xCB, 0x0E] | .rrcA => [0xCB, 0x0F]
  | .rlB => [0xCB, 0x10] | .rlC => [0xCB, 0x11] | .rlD => [0xCB, 0x12] | .rlE => [0xCB, 0x13]
  | .rlH => [0xCB, 0x14] | .rlL => [0xCB, 0x15] | .rlAtHl => [0xCB, 0x16] | .rlA => [0xCB, 0x17]
  | .rrB => [0xCB, 0x18] | .rrC => [0xCB, 0x19] | .rrD => [0xCB, 0x1A] | .rrE => [0xCB, 0x1B]
  | .rrH => [0xCB, 0x1C] | .rrL => [0xCB, 0x1D] | .rrAtHl => [0xCB, 0x1E] | .rrA => [0xCB, 0x1F]
  | .slaB => [0xCB, 0x20] | .slaC => [0xCB, 0x21] | .slaD => [0xCB, 0x22] | .slaE => [0xCB, 0x23]
  | .slaH => [0xCB, 0x24] | .slaL => [0xCB, 0x25] | .slaAtHl => [0xCB, 0x26] | .slaA => [0xCB, 0x27]
  | .sraB => [0xCB, 0x28] | .sraC => [0xCB, 0x29] | .sraD => [0xCB, 0x2A] | .sraE => [0xCB, 0x2B]
  | .sraH => [0xCB, 0x2C] | .sraL => [0xCB, 0x2D] | .sraAtHl => [0xCB, 0x2E] | .sraA => [0xCB, 0x2F]
  | .swapB => [0xCB, 0x30] | .swapC => [0xCB, 0x31] | .swapD => [0xCB, 0x32] | .swapE => [0xCB, 0x33]
  | .swapH => [0xCB, 0x34] | .swapL => [0xCB, 0x35] | .swapAtHl => [0xCB, 0x36] | .swapA => [0xCB, 0x37]
  | .srlB => [0xCB, 0x38] | .srlC => [0xCB, 0x39] | .srlD => [0xCB, 0x3A] | .srlE => [0xCB, 0x3B]
  | .srlH => [0xCB, 0x3C] | .srlL => [0xCB, 0x3D] | .srlAtHl => [0xCB, 0x3E] | .srlA => [0xCB, 0x3F]
  | .bit0B => [0xCB, 0x40] | .bit0C => [0xCB, 0x41] | .bit0D => [0xCB, 0x42] | .bit0E => [0xCB, 0x43]
  | .bit0H => [0xCB, 0x44] | .bit0L => [0xCB, 0x45] | .bit0AtHl => [0xCB, 0x46] | .bit0A => [0xCB, 0x47]
  | .bit1B => [0xCB, 0x48] | .bit1C => [0xCB, 0x49] | .bit1D => [0xCB, 0x4A] | .bit1E => [0xCB, 0x4B]
  | .bit1H => [0xCB, 0x4C] | .bit1L => [0xCB, 0x4D] | .bit1AtHl => [0xCB, 0x4E] | .bit1A => [0xCB, 0x4F]
  | .bit2B => [0xCB, 0x50] | .bit2C => [0xCB, 0x51] | .bit2D => [0xCB, 0x52] | .bit2E => [0xCB, 0x53]
  | .bit2H => [0xCB, 0x54] | .bit2L => [0xCB, 0x55] | .bit2AtHl => [0xCB, 0x56] | .bit2A => [0xCB, 0x57]
  | .bit3B => [0xCB, 0x58] | .bit3C => [0xCB, 0x59] | .bit3D => [0xCB, 0x5A] | .bit3E => [0xCB, 0x5B]
  | .bit3H => [0xCB, 0x5C] | .bit3L => [0xCB, 0x5D] | .bit3AtHl => [0xCB, 0x5E] | .bit3A => [0xCB, 0x5F]
  | .bit4B => [0xCB, 0x60] | .bit4C => [0xCB, 0x61] | .bit4D => [0xCB, 0x62] | .bit4E => [0xCB, 0x63]
  | .bit4H => [0xCB, 0x64] | .bit4L => [0xCB, 0x65] | .bit4AtHl => [0xCB, 0x66] | .bit4A => [0xCB, 0x67]
  | .bit5B => [0xCB, 0x68] | .bit5C => [0xCB, 0x69] | .bit5D => [0xCB, 0x6A] | .bit5E => [0xCB, 0x6B]
  | .bit5H => [0xCB, 0x6C] | .bit5L => [0xCB, 0x6D] | .bit5AtHl => [0xCB, 0x6E] | .bit5A => [0xCB, 0x6F]
  | .bit6B => [0xCB, 0x70] | .bit6C => [0xCB, 0x71] | .bit6D => [0xCB, 0x72] | .bit6E => [0xCB, 0x73]
  | .bit6H => [0xCB, 0x74] | .bit6L => [0xCB, 0x75] | .bit6AtHl => [0xCB, 0x76] | .bit6A => [0xCB, 0x77]
  | .bit7B => [0xCB, 0x78] | .bit7C => [0xCB, 0x79] | .bit7D => [0xCB, 0x7A] | .bit7E => [0xCB, 0x7B]
  | .bit7H => [0xCB, 0x7C] | .bit7L => [0xCB, 0x7D] | .bit7AtHl => [0xCB, 0x7E] | .bit7A => [0xCB, 0x7F]
  | .res0B => [0xCB, 0x80] | .res0C => [0xCB, 0x81] | .res0D => [0xCB, 0x82] | .res0E => [0xCB, 0x83]
  | .res0H => [0xCB, 0x84] | .res0L => [0xCB, 0x85] | .res0AtHl => [0xCB, 0x86] | .res0A => [0xCB, 0x87]
  | .res1B => [0xCB, 0x88] | .res1C => [0xCB, 0x89] | .res1D => [0xCB, 0x8A] | .res1E => [0xCB, 0x8B]
  | .res1H => [0xCB, 0x8C] | .res1L => [0xCB, 0x8D] | .res1AtHl => [0xCB, 0x8E] | .res1A => [0xCB, 0x8F]
  | .res2B => [0xCB, 0x90] | .res2C => [0xCB, 0x91] | .res2D => [0xCB, 0x92] | .res2E => [0xCB, 0x93]
  | .res2H => [0xCB, 0x94] | .res2L => [0xCB, 0x95] | .res2AtHl => [0xCB, 0x96] | .res2A => [0xCB, 0x97]
  | .res3B => [0xCB, 0x98] | .res3C => [0xCB, 0x99] | .res3D => [0xCB, 0x9A] | .res3E => [0xCB, 0x9B]
  | .res3H => [0xCB, 0x9C] | .res3L => [0xCB, 0x9D] | .res3AtHl => [0xCB, 0x9E] | .res3A => [0xCB, 0x9F]
  | .res4B => [0xCB, 0xA0] | .res4C => [0xCB, 0xA1] | .res4D => [0xCB, 0xA2] | .res4E => [0xCB, 0xA3]
  | .res4H => [0xCB, 0xA4] | .res4L => [0xCB, 0xA5] | .res4AtHl => [0xCB, 0xA6] | .res4A => [0xCB, 0xA7]
  | .res5B => [0xCB, 0xA8] | .res5C => [0xCB, 0xA9] | .res5D => [0xCB, 0xAA] | .res5E => [0xCB, 0xAB]
  | .res5H => [0xCB, 0xAC] | .res5L => [0xCB, 0xAD] | .res5AtHl => [0xCB, 0xAE] | .res5A => [0xCB, 0xAF]
  | .res6B => [0xCB, 0xB0] | .res6C => [0xCB, 0xB1] | .res6D => [0xCB, 0xB2] | .res6E => [0xCB, 0xB3]
  | .res6H => [0xCB, 0xB4] | .res6L => [0xCB, 0xB5] | .res6AtHl => [0xCB, 0xB6] | .res6A => [0xCB, 0xB7]
  | .res7B => [0xCB, 0xB8] | .res7C => [0xCB, 0xB9] | .res7D => [0xCB, 0xBA] | .res7E => [0xCB, 0xBB]
  | .res7H => [0xCB, 0xBC] | .res7L => [0xCB, 0xBD] | .res7AtHl => [0xCB, 0xBE] | .res7A => [0xCB, 0xBF]
  | .set0B => [0xCB, 0xC0] | .set0C => [0xCB, 0xC1] | .set0D => [0xCB, 0xC2] | .set0E => [0xCB, 0xC3]
  | .set0H => [0xCB, 0xC4] | .set0L => [0xCB, 0xC5] | .set0AtHl => [0xCB, 0xC6] | .set0A => [0xCB, 0xC7]
  | .set1B => [0xCB, 0xC8] | .set1C => [0xCB, 0xC9] | .set1D => [0xCB, 0xCA] | .set1E => [0xCB, 0xCB]
  | .set1H => [0xCB, 0xCC] | .set1L => [0xCB, 0xCD] | .set1AtHl => [0xCB, 0xCE] | .set1A => [0xCB, 0xCF]
  | .set2B => [0xCB, 0xD0] | .set2C => [0xCB, 0xD1] | .set2D => [0xCB, 0xD2] | .set2E => [0xCB, 0xD3]
  | .set2H => [0xCB, 0xD4] | .set2L => [0xCB, 0xD5] | .set2AtHl => [0xCB, 0xD6] | .set2A => [0xCB, 0xD7]
  | .set3B => [0xCB, 0xD8] | .set3C => [0xCB, 0xD9] | .set3D => [0xCB, 0xDA] | .set3E => [0xCB, 0xDB]
  | .set3H => [0xCB, 0xDC] | .set3L => [0xCB, 0xDD] | .set3AtHl => [0xCB, 0xDE] | .set3A => [0xCB, 0xDF]
  | .set4B => [0xCB, 0xE0] | .set4C => [0xCB, 0xE1] | .set4D => [0xCB, 0xE2] | .set4E => [0xCB, 0xE3]
  | .set4H => [0xCB, 0xE4] | .set4L => [0xCB, 0xE5] | .set4AtHl => [0xCB, 0xE6] | .set4A => [0xCB, 0xE7]
  | .set5B => [0xCB, 0xE8] | .set5C => [0xCB, 0xE9] | .set5D => [0xCB, 0xEA] | .set5E => [0xCB, 0xEB]
  | .set5H => [0xCB, 0xEC] | .set5L => [0xCB, 0xED] | .set5AtHl => [0xCB, 0xEE] | .set5A => [0xCB, 0xEF]
  | .set6B => [0xCB, 0xF0] | .set6C => [0xCB, 0xF1] | .set6D => [0xCB, 0xF2] | .set6E => [0xCB, 0xF3]
  | .set6H => [0xCB, 0xF4] | .set6L => [0xCB, 0xF5] | .set6AtHl => [0xCB, 0xF6] | .set6A => [0xCB, 0xF7]
  | .set7B => [0xCB, 0xF8] | .set7C => [0xCB, 0xF9] | .set7D => [0xCB, 0xFA] | .set7E => [0xCB, 0xFB]
  | .set7H => [0xCB, 0xFC] | .set7L => [0xCB, 0xFD] | .set7AtHl => [0xCB, 0xFE] | .set7A => [0xCB, 0xFF]

/-! ## Byte lists and the words of the opcode table -/

/-- Why a list of bytes has no instruction at its head: it is too short, or the profile does not implement the opcode. -/
inductive DecodeRefusal where
  | truncated
  | unimplemented (byte : Byte)
  deriving DecidableEq, Repr

/-- Decode the head of a list of bytes: the instruction and the bytes after it, or a refusal by name. -/
def decodeBytes (p : Profile) (o : WordOrder) : List Byte → Except DecodeRefusal (Instr × List Byte)
  | [] => .error .truncated
  | c :: rest =>
    match decode p o c (rest.getD 0 0) (rest.getD 1 0) with
    | .unimplemented b => .error (.unimplemented b)
    | .instr i => if rest.length + 1 < i.length then .error .truncated else .ok (i, rest.drop (i.length - 1))

/-- The three bytes, lowest address first, of a table word of `nbits` bits; bits the word does not have are 0. A word of the CB
space is numbered by the table with 0xCB in bits 15 to 8 although that byte comes first in memory (R145), so a 16-bit word with
0xCB there is laid out that byte first; any other word is laid out from bit 0 upward (assumption log 5). -/
def tableBytes (nbits w : Nat) : Byte × Byte × Byte :=
  let m := w % 2 ^ nbits
  if nbits = 16 ∧ m / 256 = 0xCB then (0xCB, BitVec.ofNat 8 m, 0)
  else (BitVec.ofNat 8 m, BitVec.ofNat 8 (m / 256), BitVec.ofNat 8 (m / 65536))

/-- What the model's decoder reads from a word of spec/opcode_table.json, under FULL and BE. A word of 8 bits is a row of the
base space, and the answer is the decoder's answer for that opcode byte (R128): for the row 0xCB the row itself, whose second
byte the word does not hold. A longer word holds the whole instruction. -/
def decodeTableWord (nbits w : Nat) : Option Instr :=
  let (c, b1, b2) := tableBytes nbits w
  let d := if nbits ≤ 8 then decodeOpcode Params.standard.profile Params.standard.wordOrder c b1 b2
    else decode Params.standard.profile Params.standard.wordOrder c b1 b2
  match d with
  | .instr i => some i
  | .unimplemented _ => none

end Sys2Proof
end

