-- ==== Sys2Proof/Machine/Fetch.lean ====
section
/-! DEFINITION. The parts of a step around the handler: the boundary (60_exceptions.md R717), the opcode fetch with the bytes an
immediate would be read from (30_encoding.md R140, 20_memory.md R97), the entry to the handler, and the placing of an instruction
where the next fetch finds it. -/

namespace Sys2Proof.Machine

/-! ## The boundary -/

/-- The free draw of the boundary of a number (60_exceptions.md R711, R712). -/
def freeDraw (boundary : Nat) : BoundaryDraw := ⟨Config.irqRequest boundary, Config.stopInput boundary⟩

/-- The draw of the coming boundary: the one the state fixes, or past the end of its list a fresh free draw (30_encoding.md R147;
assumption log 2). -/
def State.nextDraw (s : State) : BoundaryDraw := s.inputs.headD (freeDraw s.boundaries)

/-- Fix the draw of the coming boundary; the draws the state fixes already come after it. -/
def State.withDraw (s : State) (d : BoundaryDraw) : State := { s with inputs := d :: s.inputs }

/-- Sample the inputs: `irq_now` holds the request for the rest of the step (R712), and `irq_ack`, an output of one step only, falls
(R714). The draw is spent: the next boundary has another. -/
def State.sample (s : State) : State :=
  { s with irqNow := s.nextDraw.irq, irqAck := none, inputs := s.inputs.tail, boundaries := s.boundaries + 1 }

/-- How the boundary leaves a step: it ended there, or it goes on to fetch. -/
inductive Boundary where
  | ended (s : State)
  | fetch (s : State)
  deriving DecidableEq, Repr

/-- Interrupt entry, the last event of the boundary (R713): a running core with IME set takes a request. -/
def takeInterrupt (s : State) : Boundary :=
  match s.irqNow with
  | some k => if s.ime then .ended (s.interruptEntry k) else .fetch s
  | none => .fetch s

/-- `BoundaryEvent()` (R717) once the inputs are sampled: stop, then wake, then interrupt entry, then fetch. -/
def boundaryOf (stop : Bool) (s : State) : Boundary :=
  match s.runState with
  | .stopped => .ended s
  | .halted =>
    if stop then .ended (s.setRunState .stopped)
    else if s.irqNow = none then .ended s
    else takeInterrupt (s.setRunState .running)
  | .running => if stop then .ended (s.setRunState .stopped) else takeInterrupt s

/-- `BoundaryEvent()` (R717). -/
def boundaryEvent (s : State) : Boundary := boundaryOf s.nextDraw.stop s.sample

/-! ## Fetch, decode and the entry to the handler -/

/-- Where the immediates of the instruction at pc begin: after the opcode, or at pc itself when the halt bug keeps pc from being
advanced (R140, 47_system.md R601). -/
def State.operandPc (s : State) : Word := if s.haltBug then s.pc else s.pc + 1

/-- The decoder's answer for an opcode byte whose immediates begin at an address (R97, R128). -/
def State.decodeAt (s : State) (op : Byte) (imm : Word) : Decoded :=
  decode s.params.profile s.params.wordOrder op (s.readByte imm) (s.readByte (imm + 1))

/-- The fetched opcode's answer (R140). -/
def State.decodeFetched (s : State) : Decoded := s.decodeAt (s.readByte s.pc) s.operandPc

/-- The delay of EI (R140, R141; 47_system.md R605): ime_pending moves into IME after the decode. -/
def State.promoteIme (s : State) : State := { s with ime := s.ime || s.imePending, imePending := false }

/-- From the decode to the handler (R140): the EI delay, then the halt bug is spent or pc is advanced past the opcode. -/
def State.enterHandler (s : State) : State := { s.promoteIme with haltBug := false, pc := s.operandPc }

/-- The state in which a step dispatches a decoded row: the entry of its handler, or for a hole, which has none, the state as it is
(R704). -/
def State.dispatchState (s : State) (i : Instr) : State := if i.isHole then s else s.enterHandler

/-! ## Placing an instruction -/

/-- Store the three bytes of an instruction where the next step fetches. The next step must fetch them, so the core is set running,
the coming boundary draws nothing, and a pending halt bug, which would read the first byte twice, is cleared (assumption log 3). -/
def State.placeInstruction (s : State) (bytes : Byte × Byte × Byte) : State :=
  let t := ((s.writeByte s.pc bytes.1).writeByte (s.pc + 1) bytes.2.1).writeByte (s.pc + 2) bytes.2.2
  { t with
    runState := .running
    haltBug := false
    inputs := .quiet :: s.inputs.tail }

end Sys2Proof.Machine
end

