-- ==== Sys2Proof/Machine/Cycle.lean ====
section
/-! DEFINITION. The fetch-decode-dispatch cycle (30_encoding.md R140). -/

namespace Sys2Proof.Machine

/-- Dispatch what the decoder answered (R140): one handler, or the error Unimplemented at the opcode, with no other change (60_exceptions.md
R702, R704). -/
def dispatchDecoded (s : State) : Decoded → Result
  | .instr i => exec i (s.dispatchState i)
  | .unimplemented byte => .next (s.raiseError .unimplemented byte)

/-- One step (R140): the boundary, and unless it ends the step, one fetched instruction. -/
def cycle (s : State) : Result :=
  match boundaryEvent s with
  | .ended t => .next t
  | .fetch t => dispatchDecoded t t.decodeFetched

end Sys2Proof.Machine
end

