-- ==== Sys2Proof/Machine/Step.lean ====
section
/-! DEFINITION. The step of the machine and the placing of an instruction, under the names the host fixes. -/

namespace Sys2Proof.Machine

/-- `Step()` (30_encoding.md R140). -/
def step (s : State) : Host.Outcome State Fault Refusal := cycle s

/-- The state with the instruction of a table word where the next step fetches it (assumption log 3). -/
def State.withFetchWord (s : State) (nbits w : Nat) : State := s.placeInstruction (tableBytes nbits w)

end Sys2Proof.Machine
end

