-- ==== Sys2Proof/Machine/HostPort.lean ====
section
/-! DEFINITION. The host's entry points (30_encoding.md R146): reset, Step and Execute with the values they return, Run, Resume, the MMU primitives and
the register port. The host uses them between steps only (R16). It cannot reach IME, ime_pending or halt_bug but by reset
(60_exceptions.md R722). -/

namespace Sys2Proof.Machine

/-- Construction or reset (70_reset_and_hazards.md R800): everything to its reset value, memory too. The parameters stay, and so do the
draws, which are inputs of the core and no state of it: the boundaries after a reset are new ones (assumption log 2). -/
def hostReset (s : State) : State := { State.resetWith s.params with inputs := s.inputs, boundaries := s.boundaries }

/-- What Step, Execute and Run give back to the host beside the state they leave: the error they return, if any (60_exceptions.md R705). -/
structure HostReply where
  state : State
  error : Option ErrorRecord
  deriving DecidableEq, Repr

/-- The answer of an entry point: a reply, or the refusal NotRunning of Execute (R141, R705). -/
abbrev HostAnswer := Host.Outcome HostReply Fault Refusal

/-- An outcome together with the error the call returns. -/
def replyWith (error : Option ErrorRecord) : Result → HostAnswer
  | .next t => .next ⟨t, error⟩
  | .fault reason => .fault reason
  | .refused reason => .refused reason

/-- The record of the error that the decoder's answer for the opcode byte `op` raises at `pc0` (60_exceptions.md R701, R702); none for a handler,
which raises no error (R143). -/
def raisedError (op : Byte) (pc0 : Word) : Decoded → Option ErrorRecord
  | .unimplemented byte => some ⟨.unimplemented, byte, pc0⟩
  | .instr i => if i.isHole then some ⟨.decodeFailure, op, pc0⟩ else none

/-- The error that the coming step raises: only one that fetches raises any (R140). -/
def stepError (s : State) : Option ErrorRecord :=
  match boundaryEvent s with
  | .ended _ => none
  | .fetch t => raisedError (t.readByte t.pc) t.pc t.decodeFetched

/-- `Step()` as the host calls it (R140, 60_exceptions.md R705): the step, and `Error(record)` in the step that raises one. -/
def hostStep (s : State) : HostAnswer := replyWith (stepError s) (step s)

/-- `Execute(op)` (R141): one instruction with the host's opcode byte. No boundary, so `irq_now` is none; no opcode fetch, so pc is not
advanced for it and halt_bug is not looked at. The immediates are read at pc. An error is recorded and returned (60_exceptions.md R705).
Outside Running it answers NotRunning. -/
def hostExecute (s : State) (op : Byte) : HostAnswer :=
  match s.runState with
  | .running =>
    let t : State := { s with irqNow := none, irqAck := none }
    let d := t.decodeAt op t.pc
    replyWith (raisedError op t.pc d) <|
      match d with
      | .instr i => exec i (if i.isHole then t else t.promoteIme)
      | .unimplemented byte => .next (t.raiseError .unimplemented byte)
  | _ => .refused .notRunning

/-- `Resume()` (60_exceptions.md R710). -/
def hostResume (s : State) : State :=
  match s.runState with
  | .stopped => { s with runState := .running, lastError := none }
  | _ => s

/-- The first `k` steps of a run whose boundaries draw `draws 0`, `draws 1` and so on (R147). -/
def drawnSteps : (Nat → BoundaryDraw) → Nat → State → Result
  | _, 0, s => .next s
  | draws, k + 1, s =>
    match step (s.withDraw (draws 0)) with
    | .next t => drawnSteps (fun n => draws (n + 1)) k t
    | .fault reason => .fault reason
    | .refused reason => .refused reason

/-- `Run()` (R142, R147) where the boundaries of the run draw `draws 0`, `draws 1` and so on, for at most `fuel` steps: Step while the core
is Running or Halted. None if it has not stopped by then; otherwise the stopped state, and the last_error that Run returns, none where
STOP or the stop input caused the stop (60_exceptions.md R705). `draws` is any infinite sequence, so a claim about every run speaks of
every sequence of draws. -/
def hostRun : (Nat → BoundaryDraw) → Nat → State → Option HostReply
  | _, 0, s => if s.runState = .stopped then some ⟨s, s.lastError⟩ else none
  | draws, fuel + 1, s =>
    if s.runState = .stopped then some ⟨s, s.lastError⟩
    else
      match step (s.withDraw (draws 0)) with
      | .next t => hostRun (fun n => draws (n + 1)) fuel t
      | .fault _ => none
      | .refused _ => none

/-- The eight cells of the register-file port by code; here 110 is F (10_state.md R30, R31). -/
def hostReadReg (s : State) (code : Nat) : Byte :=
  if code % 8 = 6 then s.flagReg else s.reg (Reg8.ofCode (code % 8))

/-- Write a cell by code; a write to F drops bits 3 to 0 (R32, R722). -/
def hostWriteReg (s : State) (code : Nat) (v : Byte) : State :=
  if code % 8 = 6 then s.setFlagReg v else s.setReg (Reg8.ofCode (code % 8)) v

/-- Read a pair BC, DE, HL or AF (R722). -/
def hostReadPair (s : State) (p : StackPair) : Word := s.stackPair p

/-- Write a pair BC, DE, HL or AF (R722). -/
def hostWritePair (s : State) (p : StackPair) (v : Word) : State := s.setStackPair p v

/-- Read sp (R722). -/
def hostReadSp (s : State) : Word := s.sp

/-- Write sp (R722). -/
def hostWriteSp (s : State) (v : Word) : State := { s with sp := v }

/-- Read pc (R722). -/
def hostReadPc (s : State) : Word := s.pc

/-- Write pc (R722). -/
def hostWritePc (s : State) (v : Word) : State := { s with pc := v }

/-- Read F as a whole (R722). -/
def hostReadF (s : State) : Byte := s.flagReg

/-- Write F as a whole (R722). -/
def hostWriteF (s : State) (v : Byte) : State := s.setFlagReg v

/-- The condition bits of F by name (R39). -/
inductive FlagName where
  | zero
  | subtract
  | halfCarry
  | carry
  deriving DecidableEq, Repr

/-- Read one condition bit (R722). -/
def hostReadFlag (s : State) : FlagName → Bool
  | .zero => s.zf
  | .subtract => s.nf
  | .halfCarry => s.hf
  | .carry => s.cf

/-- Write one condition bit; the other three keep their values (R722). -/
def hostWriteFlag (s : State) (name : FlagName) (v : Bool) : State :=
  match name with
  | .zero => s.setFlags v s.nf s.hf s.cf
  | .subtract => s.setFlags s.zf v s.hf s.cf
  | .halfCarry => s.setFlags s.zf s.nf v s.cf
  | .carry => s.setFlags s.zf s.nf s.hf v

/-- `read_byte` (20_memory.md R103). -/
def hostReadByte (s : State) (addr : Word) : Byte := s.readByte addr

/-- `write_byte` (R103). -/
def hostWriteByte (s : State) (addr : Word) (v : Byte) : State := s.writeByte addr v

/-- `read_word` (R103): in WORD_ORDER. -/
def hostReadWord (s : State) (addr : Word) : Word := s.readWord addr

/-- `write_word` (R103): in WORD_ORDER. -/
def hostWriteWord (s : State) (addr : Word) (v : Word) : State := s.writeWord addr v

/-- Read last_error (60_exceptions.md R705). -/
def hostReadLastError (s : State) : Option ErrorRecord := s.lastError

/-- Read run_state (R705). -/
def hostReadRunState (s : State) : RunState := s.runState

/-- The 8-bit code of an error kind (R700). -/
def errorCode : ErrorKind → Byte
  | .decodeFailure => 1
  | .unimplemented => 2
  | .addressingFault => 3

/-- The code of last_error: 0 where there is no error (R700). -/
def lastErrorCode (s : State) : Byte :=
  match s.lastError with
  | none => 0
  | some r => errorCode r.kind

end Sys2Proof.Machine
end

