-- ==== Sys2Proof/Safety.lean ====
section
/-! DEFINITION. The terms in which claims about the machine are stated: the invariant of the reachable states, what a completed
handler is, and what it leaves unchanged. -/

namespace Sys2Proof.Machine

/-- The invariant that reset establishes and every step keeps. -/
structure State.Inv (s : State) : Prop where
  /-- Memory is in canonical form (10_state.md R47). -/
  memory : Memory.wf s.mem
  /-- F[3:0] is zero (R32). -/
  flagLow : s.f &&& 0x0F = 0
  /-- The halt bug is pending only with interrupts off and no EI pending (47_system.md R601, 60_exceptions.md R714). -/
  haltBug : s.haltBug = true → s.ime = false ∧ s.imePending = false
  /-- Under DOC, IME and both latches stay 0 (10_state.md R42, 30_encoding.md R140). -/
  doc : s.params.profile = .doc → s.ime = false ∧ s.imePending = false ∧ s.haltBug = false
  /-- An error is recorded only while the core is Stopped (60_exceptions.md R704, R710). -/
  errorStopped : s.lastError ≠ none → s.runState = .stopped
  /-- AddressingFault is never recorded (R703), Unimplemented only under DOC (R702). -/
  errorKind : ∀ r, s.lastError = some r →
    r.kind ≠ .addressingFault ∧ (r.kind = .unimplemented → s.params.profile = .doc)

/-- The handler of `i` completes at `s` in a next state that meets `P` (30_encoding.md R143). -/
def Completes (i : Instr) (s : State) (P : State → Prop) : Prop := ∃ t, exec i s = .next t ∧ P t

/-- Everything but the register file, sp, pc and memory is as before. -/
structure SameControl (s t : State) : Prop where
  params     : t.params = s.params
  ime        : t.ime = s.ime
  imePending : t.imePending = s.imePending
  haltBug    : t.haltBug = s.haltBug
  runState   : t.runState = s.runState
  lastError  : t.lastError = s.lastError
  irqNow     : t.irqNow = s.irqNow
  irqAck     : t.irqAck = s.irqAck
  inputs     : t.inputs = s.inputs
  boundaries : t.boundaries = s.boundaries

/-- Every register operand but those listed is as before. -/
def SameRegsBut (written : List Reg8) (s t : State) : Prop := ∀ r, r ∉ written → t.reg r = s.reg r

/-- Every byte of memory reads as before. -/
def SameMemory (s t : State) : Prop := ∀ addr : Word, t.readByte addr = s.readByte addr

/-- Every byte of memory but those at the listed addresses reads as before. -/
def SameMemoryBut (stored : List Word) (s t : State) : Prop :=
  ∀ addr : Word, addr ∉ stored → t.readByte addr = s.readByte addr

/-- The four flags, at bits 7 to 4 of F, and F[3:0] = 0 (10_state.md R32, R39). -/
def FlagsAre (t : State) (z n h c : Bool) : Prop :=
  t.f.getLsbD 7 = z ∧ t.f.getLsbD 6 = n ∧ t.f.getLsbD 5 = h ∧ t.f.getLsbD 4 = c ∧ t.f &&& 0x0F = 0

/-- The operand `o` holds `v`, and no other register and no other byte of memory differs (30_encoding.md R124). -/
def OperandWritten (o : Operand8) (v : Byte) (s t : State) : Prop :=
  match o with
  | .reg r => t.reg r = v ∧ SameRegsBut [r] s t ∧ SameMemory s t
  | .atHl => t.readByte s.hl = v ∧ SameRegsBut [] s t ∧ SameMemoryBut [s.hl] s t

/-- The row of spec/opcode_table.json that `i` stands for: whether it is in the DOC set, and its bytes in WORD_ORDER. -/
def HasRow (i : Instr) (doc : Bool) (bytes : WordOrder → List Byte) : Prop :=
  i.inDoc = doc ∧ ∀ o, encode o i = bytes o

/-- `i` loads A from `addr`, changes nothing else, and pc passes `k` immediate bytes (40_load8.md). -/
def LoadsA (i : Instr) (addr : Word) (k : Nat) (s : State) : Prop :=
  Completes i s fun t =>
    t.a = s.readByte addr ∧ SameRegsBut [.a] s t ∧ t.f = s.f ∧ t.sp = s.sp ∧ t.pc = s.pc + BitVec.ofNat 16 k ∧
      SameControl s t ∧ SameMemory s t

/-- `i` stores `v` at `addr`, changes nothing else, and pc passes `k` immediate bytes (40_load8.md). -/
def StoresByte (i : Instr) (addr : Word) (v : Byte) (k : Nat) (s : State) : Prop :=
  Completes i s fun t =>
    t.readByte addr = v ∧ SameMemoryBut [addr] s t ∧ SameRegsBut [] s t ∧ t.f = s.f ∧ t.sp = s.sp ∧
      t.pc = s.pc + BitVec.ofNat 16 k ∧ SameControl s t

/-- The forms that write F (10_state.md R40); `prefixCb` is the byte 0xCB, which runs a CB row. -/
def WritesF (i : Instr) : Prop :=
  (∃ op o, i = Instr.alu op o) ∨ (∃ op n, i = Instr.aluImm op n) ∨ (∃ o, i = Instr.incOp o) ∨ (∃ o, i = Instr.decOp o) ∨
  (∃ p, i = Instr.addHlPair p) ∨ (∃ e, i = .addSpE8 e) ∨ (∃ e, i = .ldHlSpE8 e) ∨ i = .rlca ∨ i = .rrca ∨ i = .rla ∨
  i = .rra ∨ i = .daa ∨ i = .cpl ∨ i = .scf ∨ i = .ccf ∨ (∃ op o, i = Instr.rot op o) ∨ (∃ b o, i = Instr.bit b o) ∨
  i = Instr.pop .af ∨ i = .prefixCb

/-- The forms that write memory (20_memory.md R94). -/
def WritesMemory (i : Instr) : Prop :=
  (∃ r, i = Instr.ldAtHlReg r) ∨ (∃ n, i = .ldAtHlD8 n) ∨ i = .ldAtBcA ∨ i = .ldAtDeA ∨ i = .ldAtHlIncA ∨ i = .ldAtHlDecA ∨
  i = .ldhAtCA ∨ (∃ n, i = .ldhAtA8A n) ∨ (∃ nn, i = .ldAtA16A nn) ∨ (∃ nn, i = .ldAtA16Sp nn) ∨ (∃ p, i = Instr.push p) ∨
  (∃ nn, i = .callA16 nn) ∨ (∃ cc nn, i = Instr.callCond cc nn) ∨ (∃ t, i = Instr.rst t) ∨ i = Instr.incOp .atHl ∨
  i = Instr.decOp .atHl ∨ (∃ op, i = Instr.rot op .atHl) ∨ (∃ b, i = Instr.res b .atHl) ∨ (∃ b, i = Instr.set b .atHl) ∨
  i = .prefixCb

/-- The rows that set pc to a target: the jumps, calls, returns and restarts (46_control.md). -/
def transfersControl : Instr → Bool
  | .jpA16 _ | .jpNzA16 _ | .jpZA16 _ | .jpNcA16 _ | .jpCA16 _ | .jpHl | .jrE8 _ | .jrNzE8 _ | .jrZE8 _ | .jrNcE8 _ | .jrCE8 _
  | .callA16 _ | .callNzA16 _ | .callZA16 _ | .callNcA16 _ | .callCA16 _ | .ret | .retNz | .retZ | .retNc | .retC | .reti
  | .rst00 | .rst08 | .rst10 | .rst18 | .rst20 | .rst28 | .rst30 | .rst38 => true
  | _ => false

/-- The next step fetches: the core is Running, and the coming boundary draws no stop and takes no interrupt
(60_exceptions.md R711, R713, R717). -/
def State.WillFetch (s : State) : Prop :=
  s.runState = .running ∧ s.nextDraw.stop = false ∧ (s.ime = false ∨ s.nextDraw.irq = none)

/-! ## The ends of a run (30_encoding.md R147), for a sequence of draws -/

/-- The run reaches a Stopped core and returns `e`: a clean end where `e` is none, an error end otherwise. -/
def RunEnds (draws : Nat → BoundaryDraw) (s : State) (e : Option ErrorRecord) : Prop :=
  ∃ fuel t, hostRun draws fuel s = some ⟨t, e⟩

/-- The run has no end: it is a hang. -/
def RunHangs (draws : Nat → BoundaryDraw) (s : State) : Prop := ∀ fuel, hostRun draws fuel s = none

/-- The registers a pair of `rp` is made of (10_state.md R35). -/
def pairCells : Pair → List Reg8
  | .bc => [.b, .c]
  | .de => [.d, .e]
  | .hl => [.h, .l]
  | .sp => []

/-- The registers a pair of `rp2` is made of, F apart (R35). -/
def stackPairCells : StackPair → List Reg8
  | .bc => [.b, .c]
  | .de => [.d, .e]
  | .hl => [.h, .l]
  | .af => [.a]

end Sys2Proof.Machine
end

