-- ==== Sys2Proof/Certificates/Slice0/Obligations.lean ====
section
/-! DEFINITION. The statements about the model. Each docstring names the rules of spec/ that the statement formalises. In the
statements about an instruction, `s` is the state at the entry of its handler: pc is the address of the first byte after the
opcode (00_scope.md R15). `O` numbers are those of OBLIGATIONS.json. -/

open Sys2Proof
open Sys2Proof.Machine

/-! ## Reset and the invariant -/

/-- O1. R48, R800: reset, which is construction, gives every piece of state of R48's table the value of that table, under every choice of
the parameters; the host's reset entry point does the same (but for the draws of the coming boundaries, which are inputs and no
state of the core). -/
def Obligations.ResetGivesTableValues : Prop :=
  ∀ p : Params,
    (∀ r, (State.resetWith p).reg r = 0x00) ∧ (State.resetWith p).f = 0x00 ∧ (State.resetWith p).pc = 0x0000 ∧
    (State.resetWith p).sp = 0x0000 ∧ (∀ addr : Word, (State.resetWith p).readByte addr = 0x00) ∧
    (State.resetWith p).ime = false ∧ (State.resetWith p).imePending = false ∧ (State.resetWith p).haltBug = false ∧
    (State.resetWith p).runState = .running ∧ (State.resetWith p).lastError = none ∧
    ∀ s : State, s.params = p →
      { hostReset s with inputs := (State.resetWith p).inputs, boundaries := (State.resetWith p).boundaries } = State.resetWith p

/-- O2. The invariant `State.Inv` holds after reset, under every choice of the parameters (R32, R42, R46, R47, R48). -/
def Obligations.ResetMeetsInvariant : Prop := ∀ p : Params, (State.resetWith p).Inv

/-- O3. Every step keeps the invariant: canonical memory, F[3:0] = 0, the halt bug pending only with interrupts off, no interrupt state
under DOC, an error recorded only while Stopped, and no AddressingFault (R32, R42, R47, R702, R703, R704, R714). -/
def Obligations.StepKeepsInvariant : Prop :=
  ∀ s t : State, s.Inv → step s = .next t → t.Inv

/-- O4. No step and no handler ends in a fault or a refusal: the decoder is total (R134), a dispatched handler completes (R143, R707), and
no access faults (R87, R703). R705: the host's Step returns `Error(record)` in the step that raises one and no error otherwise. An error is
raised by a step that fetches and only there, where the decoder finds Unimplemented or a hole, and the record is (kind, byte, pc0) (R140,
R701, R702); the step then leaves that record in last_error and the core Stopped (R704), and a step that raises none leaves last_error as it was. -/
def Obligations.NoStepStops : Prop :=
  (∀ s : State, ∃ (t : State) (e : Option ErrorRecord), step s = .next t ∧ hostStep s = .next ⟨t, e⟩ ∧
    (e = none → t.lastError = s.lastError) ∧ (∀ r, e = some r → t.lastError = some r ∧ t.runState = .stopped) ∧
    e =
      if s.runState = .stopped ∨ s.nextDraw.stop = true ∨ (s.runState = .halted ∧ s.nextDraw.irq = none) ∨
          (s.ime = true ∧ s.nextDraw.irq ≠ none) then none
      else
        match s.decodeFetched with
        | .unimplemented byte => some ⟨.unimplemented, byte, s.pc⟩
        | .instr i => if i.isHole then some ⟨.decodeFailure, s.readByte s.pc, s.pc⟩ else none) ∧
  ∀ (i : Instr) (s : State), ∃ t, exec i s = .next t

/-! ## The cycle -/

/-- O5. R140: when the next step fetches and the bytes at pc decode to a complete instruction, the step is that instruction's handler,
after the EI delay, the spending of the halt bug and the advance of pc; for a hole, which has no handler, its DecodeFailure is
raised with none of these (R704). That irq_ack falls and one draw is spent is the model's choice (assumption log 4 and 2). -/
def Obligations.StepRunsDecodedInstruction : Prop :=
  ∀ (s : State) (i : Instr) (imm : Word), s.WillFetch → imm = (if s.haltBug then s.pc else s.pc + 1) →
    i.wellFormed s.params.profile = true →
    decode s.params.profile s.params.wordOrder (s.readByte s.pc) (s.readByte imm) (s.readByte (imm + 1)) = .instr i →
    step s =
      if i.isHole then
        exec i { s with
          irqNow := s.nextDraw.irq
          irqAck := none
          inputs := s.inputs.tail
          boundaries := s.boundaries + 1 }
      else
        exec i { s with
          irqNow := s.nextDraw.irq
          irqAck := none
          inputs := s.inputs.tail
          boundaries := s.boundaries + 1
          ime := s.ime || s.imePending
          imePending := false
          haltBug := false
          pc := imm }

/-- O6. Words written out from the spec's encodings decode to the instructions they stand for (R121, R129, R131, R132, R133). -/
def Obligations.SpecWordsDecode : Prop :=
  decodeBytes .full .be [0x48] = .ok (.ldCB, []) ∧
  decodeBytes .doc .be [0x76] = .ok (.halt, []) ∧
  decodeBytes .full .be [0x01, 0x12, 0x34] = .ok (.ldBcD16 0x1234, []) ∧
  decodeBytes .full .le [0x01, 0x12, 0x34] = .ok (.ldBcD16 0x3412, []) ∧
  decodeBytes .full .be [0xF8, 0x08] = .ok (.ldHlSpE8 0x08, []) ∧
  decodeBytes .full .be [0x20, 0xFA, 0xEA] = .ok (.jrNzE8 0xFA, [0xEA]) ∧
  decodeBytes .full .be [0xCB, 0x7C] = .ok (.bit7H, []) ∧
  decodeBytes .doc .be [0xD3] = .ok (.holeD3, []) ∧
  decodeBytes .doc .be [0x90] = .error (.unimplemented 0x90) ∧
  decodeBytes .doc .be [0xCB, 0x00] = .error (.unimplemented 0xCB) ∧
  decodeBytes .full .be [0xC3, 0x01] = .error .truncated

/-- O7. Encoding and then decoding gives back every well-formed instruction, with every operand, under both profiles and both word
orders, and leaves the bytes after it (R128, R134, R137). -/
def Obligations.DecodeOfEncode : Prop :=
  ∀ (p : Profile) (o : WordOrder) (i : Instr) (rest : List Byte), i.wellFormed p = true →
    decodeBytes p o (encode o i ++ rest) = .ok (i, rest)

/-- O8. R134, which the spec marks as derived, under FULL: any bytes decode to a complete instruction, and its encoding is the bytes it was read from. -/
def Obligations.EncodeOfDecode : Prop :=
  ∀ (o : WordOrder) (c b1 b2 : Byte), ∃ i : Instr, decode .full o c b1 b2 = .instr i ∧ i.wellFormed .full = true ∧
    encode o i = [c, b1, b2].take i.length

/-- O9. R129, R130: DOC's ordered pattern list answers what FULL answers for the DOC rows and the holes, and Unimplemented for
every other byte. -/
def Obligations.DocDecoderRestrictsFull : Prop :=
  ∀ (o : WordOrder) (c b1 b2 : Byte), ∃ i : Instr, decode .full o c b1 b2 = .instr i ∧
    decode .doc o c b1 b2 = if i.inDoc || i.isHole then .instr i else .unimplemented c

/-- O10. A step writes no parameter, spends exactly the draw of its own boundary, and `irq_now` holds that draw's request for the rest of
the step (R49, R712). R147, R711: every boundary of a run has a draw of its own, drawn afresh: after any number of steps the coming boundary
has the draw the state fixed for it, or the free draw of its own number, of which nothing is known (the form is the model's choice,
assumption log 2). -/
def Obligations.StepSpendsOneDraw : Prop :=
  (∀ s t : State, step s = .next t →
    t.params = s.params ∧ t.inputs = s.inputs.tail ∧ t.boundaries = s.boundaries + 1 ∧ t.irqNow = s.nextDraw.irq) ∧
  ∀ (n : Nat) (s t : State), Host.Core.run Sys2Proof.core n s = .next t →
    t.nextDraw = (s.inputs[n]?).getD ⟨Config.irqRequest (s.boundaries + n), Config.stopInput (s.boundaries + n)⟩

/-! ## Whole-machine rules -/

/-- O11. R42, R43: among the instructions only DI and RETI change IME, and only DI, EI and RETI change ime_pending. (Interrupt entry
and the EI delay belong to the step, O5 and O18.) -/
def Obligations.OnlyDiEiRetiWriteIme : Prop :=
  ∀ (i : Instr) (s t : State), exec i s = .next t →
    (t.ime ≠ s.ime → i = .di ∨ i = .reti) ∧ (t.imePending ≠ s.imePending → i = .di ∨ i = .ei ∨ i = .reti)

/-- O12. R708: run_state after a step, by what the boundary and the fetched instruction are. No other event changes it. -/
def Obligations.RunStateTransitions : Prop :=
  ∀ s t : State, step s = .next t →
    if s.runState = .stopped then t.runState = .stopped
    else if s.nextDraw.stop = true then t.runState = .stopped
    else if s.runState = .halted ∧ s.nextDraw.irq = none then t.runState = .halted
    else if s.ime = true ∧ s.nextDraw.irq ≠ none then t.runState = .running
    else
      match s.decodeFetched with
      | .unimplemented _ => t.runState = .stopped
      | .instr i =>
        (i = .halt → t.runState =
          if s.params.profile = .full ∧ (s.ime || s.imePending) = false ∧ s.nextDraw.irq ≠ none then .running else .halted) ∧
        ((i.isHole = true ∨ ∃ x, i = .stop x) → t.runState = .stopped) ∧
        (i ≠ .halt → i.isHole = false → (∀ x, i ≠ .stop x) → t.runState = .running)

/-- O13. R40, which the spec marks as derived: no instruction but the listed forms writes F. -/
def Obligations.OnlyListedFormsWriteF : Prop :=
  ∀ (i : Instr) (s t : State), exec i s = .next t → t.f ≠ s.f → WritesF i

/-- O14. R94, which the spec marks as derived: no instruction but the listed forms writes memory. -/
def Obligations.OnlyListedFormsWriteMemory : Prop :=
  ∀ (i : Instr) (s t : State) (addr : Word), exec i s = .next t → t.readByte addr ≠ s.readByte addr → WritesMemory i

/-! ## The boundary, errors and the host -/

/-- O15. R711: the stop input, drawn 1 at the boundary of a Running or Halted core, stops it and does nothing else.
That irq_ack falls and one draw is spent is the model's choice (assumption log 4 and 2). -/
def Obligations.StopInputStopsCore : Prop :=
  ∀ s : State, s.runState ≠ .stopped → s.nextDraw.stop = true →
    step s = .next { s with
      irqNow := s.nextDraw.irq
      irqAck := none
      inputs := s.inputs.tail
      boundaries := s.boundaries + 1
      runState := .stopped }

/-- O16. R709: a Halted core with no request stays Halted, and the step changes nothing of it. That irq_ack falls
and one draw is spent is the model's choice (assumption log 4 and 2). R142, R147: while no wake and no stop comes, its run has no end. -/
def Obligations.HaltedCoreIdles : Prop :=
  (∀ s : State, s.runState = .halted → s.nextDraw = ⟨none, false⟩ →
    step s = .next { s with
      irqNow := none
      irqAck := none
      inputs := s.inputs.tail
      boundaries := s.boundaries + 1 }) ∧
  ∀ (s : State) (draws : Nat → BoundaryDraw), s.runState = .halted → (∀ n, draws n = ⟨none, false⟩) → RunHangs draws s

/-- O17. R709: a request wakes a Halted core whatever IME is, and the same step goes on as that of a Running core. -/
def Obligations.HaltedCoreWakes : Prop :=
  ∀ s : State, s.runState = .halted → s.nextDraw.stop = false → s.nextDraw.irq ≠ none →
    step s = step { s with runState := .running }

/-- O18. R713, R714: a Running core with IME = 1 and request k enters the interrupt: IME and ime_pending cleared, pc pushed (high byte
at the old sp - 1, low byte at the old sp - 2), pc at 0x0040 + 8k, k acknowledged; the registers, F, halt_bug, run_state, last_error
and every other byte of memory keep their values. That irq_ack is held in the state the entry leaves and falls at the next boundary is the
model's reading of R714's "for this step only" (assumption log 4, DEDUCED). -/
def Obligations.InterruptEntryEffect : Prop :=
  ∀ (s : State) (k : Fin 5), s.runState = .running → s.ime = true → s.nextDraw = ⟨some k, false⟩ →
    ∃ t, step s = .next t ∧ t.ime = false ∧ t.imePending = false ∧ t.sp = s.sp - 2 ∧
      t.readByte (s.sp - 1) = hi8 s.pc ∧ t.readByte (s.sp - 2) = lo8 s.pc ∧ SameMemoryBut [s.sp - 1, s.sp - 2] s t ∧
      t.pc = BitVec.ofNat 16 (0x0040 + 8 * k.val) ∧ t.irqAck = some k ∧ SameRegsBut [] s t ∧ t.f = s.f ∧
      t.haltBug = s.haltBug ∧ t.runState = .running ∧ t.lastError = s.lastError ∧ t.sample.irqAck = none

/-- O19. R710: Step does nothing while the core is Stopped (the boundary's draw is spent, log 2, and irq_ack falls, log 4) and returns no
error; Resume takes a Stopped core to Running with last_error none and changes nothing else, and has no effect on any other core. R142,
R147, R705: for every infinite sequence of draws, Run returns from a Stopped core at once; otherwise it returns after the steps that reach
a Stopped core, the core of each step before being Running or Halted; it leaves that state and returns its last_error, and it returns if
the bound (log 11) allows that many steps. A run hangs exactly where no number of steps reaches a Stopped core, and otherwise it ends. -/
def Obligations.StoppedCoreWaitsForResume : Prop :=
  (∀ s : State,
    (s.runState = .stopped →
      hostStep s = .next ⟨{ s with
        irqNow := s.nextDraw.irq
        irqAck := none
        inputs := s.inputs.tail
        boundaries := s.boundaries + 1 }, none⟩ ∧
      hostResume s = { s with runState := .running, lastError := none }) ∧
    (s.runState ≠ .stopped → hostResume s = s)) ∧
  ∀ (draws : Nat → BoundaryDraw) (s : State),
    (∀ (fuel : Nat) (r : HostReply),
      hostRun draws fuel s = some r ↔
        r.error = r.state.lastError ∧ r.state.runState = .stopped ∧
          ∃ k, k ≤ fuel ∧ drawnSteps draws k s = .next r.state ∧
            ∀ n, n < k → ∃ u : State, drawnSteps draws n s = .next u ∧ u.runState ≠ .stopped) ∧
    (RunHangs draws s ↔ ∀ (k : Nat) (t : State), drawnSteps draws k s = .next t → t.runState ≠ .stopped) ∧
    (RunHangs draws s ∨ ∃ e, RunEnds draws s e)

/-- O20. R702, R704: under DOC a fetched byte that is a legal LR35902 opcode outside the DOC set raises Unimplemented(byte, pc0): last_error
is recorded, the core stops, pc stays at the opcode and nothing else changes. That irq_ack falls and one draw is spent is the model's choice
(assumption log 4 and 2). -/
def Obligations.UnimplementedStopsDocCore : Prop :=
  ∀ (s : State) (i : Instr), s.WillFetch → s.params.profile = .doc →
    decodeBase s.params.wordOrder (s.readByte s.pc) 0 0 = i → i.inDoc = false → i.isHole = false →
    step s = .next { s with
      irqNow := s.nextDraw.irq
      irqAck := none
      inputs := s.inputs.tail
      boundaries := s.boundaries + 1
      lastError := some ⟨.unimplemented, s.readByte s.pc, s.pc⟩
      runState := .stopped }

/-- O21. R603: each of the eleven holes is outside the DOC set, is one byte long, is decoded under both profiles, and raises
DecodeFailure(byte, pc0), where pc is still the hole's address: last_error is recorded, the core stops and nothing else changes. -/
def Obligations.HolesRaiseDecodeFailure : Prop :=
  ∀ (i : Instr), i.isHole = true →
    ∃ byte : Byte, byte ∈ ([0xD3, 0xDB, 0xDD, 0xE3, 0xE4, 0xEB, 0xEC, 0xED, 0xF4, 0xFC, 0xFD] : List Byte) ∧
      HasRow i false (fun _ => [byte]) ∧ (∀ p o b1 b2, decode p o byte b1 b2 = .instr i) ∧
      ∀ s : State, exec i s =
        .next { s with lastError := some ⟨.decodeFailure, byte, s.pc⟩, runState := .stopped }

/-- O22. R141: Execute runs the handler of the host's opcode with its immediates at pc, the EI delay done, no boundary (so irq_now is
none) and halt_bug as it was; a hole raises its DecodeFailure at pc, and under DOC a legal opcode outside the DOC set raises
Unimplemented there. R705: Execute returns `Error(record)` where it raises one, with the record it leaves in last_error, no error where a
handler runs, and NotRunning outside Running. That irq_ack falls is the model's choice (assumption log 4). -/
def Obligations.ExecuteRunsSuppliedOpcode : Prop :=
  ∀ (s : State) (op : Byte),
    let d : Decoded := decode s.params.profile s.params.wordOrder op (s.readByte s.pc) (s.readByte (s.pc + 1))
    (s.runState ≠ .running → hostExecute s op = .refused .notRunning) ∧
    (s.runState = .running → ∀ i : Instr, d = .instr i → i.isHole = false →
      ∃ t, hostExecute s op = .next ⟨t, none⟩ ∧
        exec i { s with irqNow := none, irqAck := none, ime := s.ime || s.imePending, imePending := false } = .next t) ∧
    (s.runState = .running → ∀ i : Instr, d = .instr i → i.isHole = true →
      hostExecute s op = .next
        ⟨{ s with irqNow := none, irqAck := none, lastError := some ⟨.decodeFailure, op, s.pc⟩, runState := .stopped },
          some ⟨.decodeFailure, op, s.pc⟩⟩) ∧
    (s.runState = .running → ∀ byte : Byte, d = .unimplemented byte →
      byte = op ∧ hostExecute s op = .next
        ⟨{ s with irqNow := none, irqAck := none, lastError := some ⟨.unimplemented, op, s.pc⟩, runState := .stopped },
          some ⟨.unimplemented, op, s.pc⟩⟩)

/-- O23. R144, which the spec marks as derived: a complete instruction that transfers no control leaves pc past its own bytes, that
is at the handler's entry pc (past the opcode) plus its length less one. -/
def Obligations.PcAdvancesByLength : Prop :=
  ∀ (i : Instr) (s t : State), i.isComplete = true → i.isHole = false → transfersControl i = false → exec i s = .next t →
    t.pc = s.pc + BitVec.ofNat 16 (i.length - 1)

/-- O24. R254, which the spec marks as derived, under Execute, where no opcode is fetched: PUSH rr and then POP rr give back the pair and sp, for every pair and every sp. -/
def Obligations.PushThenPopRestores : Prop :=
  ∀ (s : State) (p : StackPair), s.runState = .running →
    ∃ t u, hostExecute s (BitVec.ofNat 8 (0xC5 + 16 * p.code)) = .next ⟨t, none⟩ ∧
      hostExecute t (BitVec.ofNat 8 (0xC1 + 16 * p.code)) = .next ⟨u, none⟩ ∧
      u.stackPair p = s.stackPair p ∧ u.sp = s.sp

/-- O25. R31, R32, R34, R722: the register-file port. A cell reads back what was written to it by its code, F (code 110) without its
low nibble, and no other cell changes; a pair reads back as its two cells, AF without F's low nibble. -/
def Obligations.RegisterPortReadsBack : Prop :=
  (∀ (s : State) (code other : Fin 8) (v : Byte),
    hostReadReg (hostWriteReg s code.val v) code.val = (if code.val = 6 then v &&& 0xF0 else v) ∧
    (other ≠ code → hostReadReg (hostWriteReg s code.val v) other.val = hostReadReg s other.val)) ∧
  ∀ (s : State) (p : StackPair) (v : Word),
    hostReadPair (hostWritePair s p v) p = if p = .af then v &&& 0xFFF0 else v

/-- O26. R84, R85: a word write puts the word's bytes at addr and addr + 1 (modulo 65536) in WORD_ORDER and changes nothing else; a word
read composes the two bytes in the same order. -/
def Obligations.WordPrimitives : Prop :=
  ∀ (s : State) (addr v : Word),
    s.readWord addr =
      (match s.params.wordOrder with
        | .be => joinBytes (s.readByte addr) (s.readByte (addr + 1))
        | .le => joinBytes (s.readByte (addr + 1)) (s.readByte addr)) ∧
    (s.writeWord addr v).readByte addr = (match s.params.wordOrder with | .be => hi8 v | .le => lo8 v) ∧
    (s.writeWord addr v).readByte (addr + 1) = (match s.params.wordOrder with | .be => lo8 v | .le => hi8 v) ∧
    SameMemoryBut [addr, addr + 1] s (s.writeWord addr v) ∧
    ∃ mem, s.writeWord addr v = { s with mem := mem }

/-- O27. The model's form of the memory image of R47 (assumption log 6): two memories in canonical form that read alike at all 65536 addresses are the same list. -/
def Obligations.CanonicalMemoriesAreEqual : Prop :=
  ∀ m n : List Host.Cell, Memory.wf m → Memory.wf n →
    (∀ addr : Word, memRead m addr.toNat = memRead n addr.toNat) → m = n

/-- O28. R312, R313, where the spec marks the agreement as derived: the two formulas the spec gives for the half-carry of an addition and of a subtraction agree for all bytes and
carries in. -/
def Obligations.HalfCarryFormulasAgree : Prop :=
  ∀ (a b : Byte) (cin : Bool),
    (add8 a b cin).h = decide ((a ^^^ b ^^^ (add8 a b cin).r) &&& 0x10 ≠ 0) ∧
    (sub8 a b cin).h = decide ((a ^^^ b ^^^ (sub8 a b cin).r) &&& 0x10 ≠ 0)

/-- O29. R605, R140: after EI in a core with IME = 0 and no EI pending, the next boundary still sees IME = 0, so a step that is not stopped
there fetches an instruction whatever is requested; that instruction's handler already runs with IME = 1. -/
def Obligations.EiTakesEffectOneInstructionLater : Prop :=
  ∀ s : State, s.WillFetch → s.ime = false → s.imePending = false → s.decodeFetched = .instr .ei →
    ∃ t, step s = .next t ∧ t.ime = false ∧ t.imePending = true ∧ (t.nextDraw.stop = false → t.WillFetch) ∧
      ∀ j : Instr, j.isHole = false → (t.sample.dispatchState j).ime = true

/-! ## 8-bit loads -/

/-- O30. R200: LD r,r'. -/
def Obligations.LoadRegisterFromRegister : Prop :=
  ∀ (dst src : Reg8),
    HasRow (Instr.ldRegReg dst src) true (fun _ => [BitVec.ofNat 8 (0x40 + 8 * dst.code + src.code)]) ∧
    ∀ s, Completes (Instr.ldRegReg dst src) s fun t =>
      t.reg dst = s.reg src ∧ SameRegsBut [dst] s t ∧ t.f = s.f ∧ t.sp = s.sp ∧ t.pc = s.pc ∧ SameControl s t ∧ SameMemory s t

/-- O31. R201: LD r,n. -/
def Obligations.LoadRegisterImmediate : Prop :=
  ∀ (dst : Reg8) (n : Byte),
    HasRow (Instr.ldRegImm dst n) true (fun _ => [BitVec.ofNat 8 (0x06 + 8 * dst.code), n]) ∧
    ∀ s, Completes (Instr.ldRegImm dst n) s fun t =>
      t.reg dst = n ∧ SameRegsBut [dst] s t ∧ t.f = s.f ∧ t.sp = s.sp ∧ t.pc = s.pc + 1 ∧ SameControl s t ∧ SameMemory s t

/-- O32. R202: LD r,(HL); the address is the HL before the write. -/
def Obligations.LoadRegisterAtHl : Prop :=
  ∀ (dst : Reg8),
    HasRow (Instr.ldRegAtHl dst) true (fun _ => [BitVec.ofNat 8 (0x46 + 8 * dst.code)]) ∧
    ∀ s, Completes (Instr.ldRegAtHl dst) s fun t =>
      t.reg dst = s.readByte s.hl ∧ SameRegsBut [dst] s t ∧ t.f = s.f ∧ t.sp = s.sp ∧ t.pc = s.pc ∧ SameControl s t ∧
        SameMemory s t

/-- O33. R203, R204: LD (HL),r and LD (HL),n. -/
def Obligations.StoreAtHl : Prop :=
  (∀ (r : Reg8),
    HasRow (Instr.ldAtHlReg r) true (fun _ => [BitVec.ofNat 8 (0x70 + r.code)]) ∧
    ∀ s, StoresByte (Instr.ldAtHlReg r) s.hl (s.reg r) 0 s) ∧
  ∀ (n : Byte), HasRow (.ldAtHlD8 n) true (fun _ => [0x36, n]) ∧ ∀ s, StoresByte (.ldAtHlD8 n) s.hl n 1 s

/-- O34. R205, R206, R213, R215, R217: the loads of A from (BC), (DE), the high page and an absolute address. -/
def Obligations.LoadAIndirect : Prop :=
  ∀ (n : Byte) (nn : Word) (s : State),
    HasRow .ldAAtBc true (fun _ => [0x0A]) ∧ LoadsA .ldAAtBc (joinBytes s.b s.c) 0 s ∧
    HasRow .ldAAtDe true (fun _ => [0x1A]) ∧ LoadsA .ldAAtDe (joinBytes s.d s.e) 0 s ∧
    HasRow .ldhAAtC true (fun _ => [0xF2]) ∧ LoadsA .ldhAAtC (0xFF00 ||| zext16 s.c) 0 s ∧
    HasRow (.ldhAAtA8 n) true (fun _ => [0xF0, n]) ∧ LoadsA (.ldhAAtA8 n) (0xFF00 ||| zext16 n) 1 s ∧
    HasRow (.ldAAtA16 nn) true (fun o => 0xFA :: wordBytes o nn) ∧ LoadsA (.ldAAtA16 nn) nn 2 s

/-- O35. R207, R208, R214, R216, R218: the stores of A to (BC), (DE), the high page and an absolute address. -/
def Obligations.StoreAIndirect : Prop :=
  ∀ (n : Byte) (nn : Word) (s : State),
    HasRow .ldAtBcA true (fun _ => [0x02]) ∧ StoresByte .ldAtBcA (joinBytes s.b s.c) s.a 0 s ∧
    HasRow .ldAtDeA true (fun _ => [0x12]) ∧ StoresByte .ldAtDeA (joinBytes s.d s.e) s.a 0 s ∧
    HasRow .ldhAtCA true (fun _ => [0xE2]) ∧ StoresByte .ldhAtCA (0xFF00 ||| zext16 s.c) s.a 0 s ∧
    HasRow (.ldhAtA8A n) true (fun _ => [0xE0, n]) ∧ StoresByte (.ldhAtA8A n) (0xFF00 ||| zext16 n) s.a 1 s ∧
    HasRow (.ldAtA16A nn) true (fun o => 0xEA :: wordBytes o nn) ∧ StoresByte (.ldAtA16A nn) nn s.a 2 s

/-- O36. R209, R210: LD A,(HL+) and LD A,(HL-): A from the old HL, then HL up or down by 1 modulo 65536. -/
def Obligations.LoadAAndStepHl : Prop :=
  ∀ (s : State) (up : Bool),
    HasRow (if up then .ldAAtHlInc else .ldAAtHlDec) true (fun _ => [if up then 0x2A else 0x3A]) ∧
    Completes (if up then .ldAAtHlInc else .ldAAtHlDec) s fun t =>
      t.a = s.readByte s.hl ∧ t.hl = (if up then s.hl + 1 else s.hl - 1) ∧ SameRegsBut [.a, .h, .l] s t ∧ t.f = s.f ∧
        t.sp = s.sp ∧ t.pc = s.pc ∧ SameControl s t ∧ SameMemory s t

/-- O37. R211, R212: LD (HL+),A and LD (HL-),A: A to the old HL, then HL up or down by 1 modulo 65536. -/
def Obligations.StoreAAndStepHl : Prop :=
  ∀ (s : State) (up : Bool),
    HasRow (if up then .ldAtHlIncA else .ldAtHlDecA) true (fun _ => [if up then 0x22 else 0x32]) ∧
    Completes (if up then .ldAtHlIncA else .ldAtHlDecA) s fun t =>
      t.readByte s.hl = s.a ∧ SameMemoryBut [s.hl] s t ∧ t.hl = (if up then s.hl + 1 else s.hl - 1) ∧
        SameRegsBut [.h, .l] s t ∧ t.f = s.f ∧ t.sp = s.sp ∧ t.pc = s.pc ∧ SameControl s t

/-! ## 16-bit loads and the stack -/

/-- O38. R250: LD rr,nn; index 3 is sp. And the rule's property, under both profiles and both word orders: a word stored with the word
primitive at pc and read back by Execute of LD rr,nn is in the pair, and pc has advanced by exactly 2. -/
def Obligations.LoadPairImmediate : Prop :=
  ∀ (p : Pair) (nn : Word),
    HasRow (Instr.ldPairImm p nn) true (fun o => BitVec.ofNat 8 (0x01 + 16 * p.code) :: wordBytes o nn) ∧
    ∀ s : State,
      (Completes (Instr.ldPairImm p nn) s fun t =>
        t.pair p = nn ∧ SameRegsBut (pairCells p) s t ∧ (p ≠ .sp → t.sp = s.sp) ∧ t.f = s.f ∧ t.pc = s.pc + 2 ∧
          SameControl s t ∧ SameMemory s t) ∧
      (s.runState = .running →
        ∃ t, hostExecute (hostWriteWord s s.pc nn) (BitVec.ofNat 8 (0x01 + 16 * p.code)) = .next ⟨t, none⟩ ∧ t.pair p = nn ∧
          t.pc = s.pc + 2)

/-- O39. R251, R256: LD SP,HL, and LD (nn),SP, which stores sp with the word primitive: its bytes in WORD_ORDER at nn and nn + 1. -/
def Obligations.LoadAndStoreSp : Prop :=
  (HasRow .ldSpHl true (fun _ => [0xF9]) ∧
    ∀ s, Completes .ldSpHl s fun t =>
      t.sp = s.hl ∧ SameRegsBut [] s t ∧ t.f = s.f ∧ t.pc = s.pc ∧ SameControl s t ∧ SameMemory s t) ∧
  ∀ (nn : Word), HasRow (.ldAtA16Sp nn) true (fun o => 0x08 :: wordBytes o nn) ∧
    ∀ s, Completes (.ldAtA16Sp nn) s fun t =>
      t.readByte nn = (match s.params.wordOrder with | .be => hi8 s.sp | .le => lo8 s.sp) ∧
      t.readByte (nn + 1) = (match s.params.wordOrder with | .be => lo8 s.sp | .le => hi8 s.sp) ∧
      SameMemoryBut [nn, nn + 1] s t ∧ SameRegsBut [] s t ∧ t.f = s.f ∧ t.sp = s.sp ∧ t.pc = s.pc + 2 ∧ SameControl s t

/-- O40. R95, R252: PUSH rr: sp down by 2, the high byte at the old sp - 1, the low byte at the old sp - 2, whatever WORD_ORDER is. AF is
pushed with F[3:0] = 0. -/
def Obligations.PushStoresPair : Prop :=
  ∀ (p : StackPair),
    HasRow (Instr.push p) true (fun _ => [BitVec.ofNat 8 (0xC5 + 16 * p.code)]) ∧
    ∀ s, Completes (Instr.push p) s fun t =>
      t.sp = s.sp - 2 ∧ t.readByte (s.sp - 1) = hi8 (s.stackPair p) ∧ t.readByte (s.sp - 2) = lo8 (s.stackPair p) ∧
        (p = .af → t.readByte (s.sp - 2) = s.f &&& 0xF0) ∧
        SameMemoryBut [s.sp - 1, s.sp - 2] s t ∧ SameRegsBut [] s t ∧ t.f = s.f ∧ t.pc = s.pc ∧ SameControl s t

/-- O41. R96, R253, R255: POP rr: the low byte from sp, the high byte from sp + 1, sp up by 2. POP AF drops the low nibble of the byte
that goes to F; the other three leave F alone. -/
def Obligations.PopLoadsPair : Prop :=
  ∀ (p : StackPair),
    HasRow (Instr.pop p) true (fun _ => [BitVec.ofNat 8 (0xC1 + 16 * p.code)]) ∧
    ∀ s, Completes (Instr.pop p) s fun t =>
      (if p = .af then t.a = s.readByte (s.sp + 1) ∧ t.f = s.readByte s.sp &&& 0xF0
        else t.stackPair p = joinBytes (s.readByte (s.sp + 1)) (s.readByte s.sp) ∧ t.f = s.f) ∧
        t.sp = s.sp + 2 ∧ SameRegsBut (stackPairCells p) s t ∧ t.pc = s.pc ∧ SameControl s t ∧ SameMemory s t

/-- O42. R257, R403: LD HL,SP+e and ADD SP,e: sp plus the sign-extended displacement; Z = N = 0; H and C are the carries out of bits 3 and
7 of the unsigned addition of the low byte of sp and e. -/
def Obligations.SpPlusDisplacement : Prop :=
  ∀ (e : Byte),
    HasRow (.ldHlSpE8 e) true (fun _ => [0xF8, e]) ∧ HasRow (.addSpE8 e) false (fun _ => [0xE8, e]) ∧
    ∀ s : State,
      (Completes (.ldHlSpE8 e) s fun t =>
        t.hl = s.sp + BitVec.ofInt 16 e.toInt ∧
        FlagsAre t false false (decide (15 < s.sp.toNat % 16 + e.toNat % 16)) (decide (255 < s.sp.toNat % 256 + e.toNat)) ∧
        SameRegsBut [.h, .l] s t ∧ t.sp = s.sp ∧ t.pc = s.pc + 1 ∧ SameControl s t ∧ SameMemory s t) ∧
      Completes (.addSpE8 e) s fun t =>
        t.sp = s.sp + BitVec.ofInt 16 e.toInt ∧
        FlagsAre t false false (decide (15 < s.sp.toNat % 16 + e.toNat % 16)) (decide (255 < s.sp.toNat % 256 + e.toNat)) ∧
        SameRegsBut [] s t ∧ t.pc = s.pc + 1 ∧ SameControl s t ∧ SameMemory s t

/-! ## 8-bit arithmetic and logic -/

/-- O43. R300 to R305: ADD and ADC on A, for a register, (HL) and an immediate. `cin` is 0 for ADD and the carry flag for ADC. -/
def Obligations.AddToA : Prop :=
  ∀ (carry : Bool) (o : Operand8) (n : Byte),
    let op : AluOp := if carry then .adc else .add
    HasRow (Instr.alu op o) (!carry) (fun _ => [BitVec.ofNat 8 (0x80 + 8 * op.code + o.code)]) ∧
    HasRow (Instr.aluImm op n) (!carry) (fun _ => [BitVec.ofNat 8 (0xC6 + 8 * op.code), n]) ∧
    ∀ s : State,
      let cin : Nat := if carry && s.cf then 1 else 0
      let sum (v : Byte) (t : State) : Prop :=
        t.a.toNat = (s.a.toNat + v.toNat + cin) % 256 ∧
        FlagsAre t (decide ((s.a.toNat + v.toNat + cin) % 256 = 0)) false
          (decide (15 < s.a.toNat % 16 + v.toNat % 16 + cin)) (decide (255 < s.a.toNat + v.toNat + cin)) ∧
        SameRegsBut [.a] s t ∧ t.sp = s.sp ∧ SameControl s t ∧ SameMemory s t
      (Completes (Instr.alu op o) s fun t => sum (s.operand o) t ∧ t.pc = s.pc) ∧
      Completes (Instr.aluImm op n) s fun t => sum n t ∧ t.pc = s.pc + 1

/-- O44. R306 to R311, R324 to R326: SUB, SBC and CP on A, for a register, (HL) and an immediate. `cin` is the carry flag for SBC, else 0. CP
leaves A alone. -/
def Obligations.SubtractFromA : Prop :=
  ∀ (op : AluOp) (o : Operand8) (n : Byte), op = .sub ∨ op = .sbc ∨ op = .cp →
    HasRow (Instr.alu op o) false (fun _ => [BitVec.ofNat 8 (0x80 + 8 * op.code + o.code)]) ∧
    HasRow (Instr.aluImm op n) false (fun _ => [BitVec.ofNat 8 (0xC6 + 8 * op.code), n]) ∧
    ∀ s : State,
      let cin : Nat := if op = .sbc ∧ s.cf = true then 1 else 0
      let difference (v : Byte) (t : State) : Prop :=
        (op ≠ .cp → (t.a.toNat : Int) = ((s.a.toNat : Int) - v.toNat - cin) % 256) ∧ (op = .cp → t.a = s.a) ∧
        FlagsAre t (decide (((s.a.toNat : Int) - v.toNat - cin) % 256 = 0)) true
          (decide (s.a.toNat % 16 < v.toNat % 16 + cin)) (decide (s.a.toNat < v.toNat + cin)) ∧
        SameRegsBut [.a] s t ∧ t.sp = s.sp ∧ SameControl s t ∧ SameMemory s t
      (Completes (Instr.alu op o) s fun t => difference (s.operand o) t ∧ t.pc = s.pc) ∧
      Completes (Instr.aluImm op n) s fun t => difference n t ∧ t.pc = s.pc + 1

/-- O45. R315 to R323: AND, XOR and OR on A, for a register, (HL) and an immediate. Only AND sets H. -/
def Obligations.LogicOnA : Prop :=
  ∀ (op : AluOp) (o : Operand8) (n : Byte), op = .and ∨ op = .xor ∨ op = .or →
    HasRow (Instr.alu op o) false (fun _ => [BitVec.ofNat 8 (0x80 + 8 * op.code + o.code)]) ∧
    HasRow (Instr.aluImm op n) false (fun _ => [BitVec.ofNat 8 (0xC6 + 8 * op.code), n]) ∧
    ∀ s : State,
      let bitwise (v : Byte) (t : State) : Prop :=
        (∀ k, k < 8 → t.a.getLsbD k =
          (match op with
            | .and => s.a.getLsbD k && v.getLsbD k
            | .xor => s.a.getLsbD k ^^ v.getLsbD k
            | _ => s.a.getLsbD k || v.getLsbD k)) ∧
        FlagsAre t (decide (t.a = 0)) false (decide (op = .and)) false ∧
        SameRegsBut [.a] s t ∧ t.sp = s.sp ∧ SameControl s t ∧ SameMemory s t
      (Completes (Instr.alu op o) s fun t => bitwise (s.operand o) t ∧ t.pc = s.pc) ∧
      Completes (Instr.aluImm op n) s fun t => bitwise n t ∧ t.pc = s.pc + 1

/-- O46. R330 to R333: INC and DEC of a register or the byte at HL; C is unchanged. -/
def Obligations.IncDecOperand : Prop :=
  ∀ (o : Operand8),
    HasRow (Instr.incOp o) false (fun _ => [BitVec.ofNat 8 (0x04 + 8 * o.code)]) ∧
    HasRow (Instr.decOp o) false (fun _ => [BitVec.ofNat 8 (0x05 + 8 * o.code)]) ∧
    ∀ s : State,
      (Completes (Instr.incOp o) s fun t =>
        OperandWritten o (BitVec.ofNat 8 ((s.operand o).toNat + 1)) s t ∧
        FlagsAre t (decide ((s.operand o).toNat = 255)) false (decide ((s.operand o).toNat % 16 = 15)) s.cf ∧
        t.sp = s.sp ∧ t.pc = s.pc ∧ SameControl s t) ∧
      Completes (Instr.decOp o) s fun t =>
        OperandWritten o (BitVec.ofNat 8 ((s.operand o).toNat + 255)) s t ∧
        FlagsAre t (decide ((s.operand o).toNat = 1)) true (decide ((s.operand o).toNat % 16 = 0)) s.cf ∧
        t.sp = s.sp ∧ t.pc = s.pc ∧ SameControl s t

/-! ## 16-bit arithmetic -/

/-- O47. R400, R401: INC rr and DEC rr, modulo 65536; F is unchanged. -/
def Obligations.IncDecPair : Prop :=
  ∀ (p : Pair) (up : Bool),
    let i : Instr := if up then Instr.incPair p else Instr.decPair p
    HasRow i false (fun _ => [BitVec.ofNat 8 ((if up then 0x03 else 0x0B) + 16 * p.code)]) ∧
    ∀ s, Completes i s fun t =>
      t.pair p = (if up then s.pair p + 1 else s.pair p - 1) ∧ SameRegsBut (pairCells p) s t ∧ (p ≠ .sp → t.sp = s.sp) ∧
        t.f = s.f ∧ t.pc = s.pc ∧ SameControl s t ∧ SameMemory s t

/-- O48. R402: ADD HL,rr: Z unchanged, N = 0, H and C the carries out of bits 11 and 15. -/
def Obligations.AddPairToHl : Prop :=
  ∀ (p : Pair),
    HasRow (Instr.addHlPair p) false (fun _ => [BitVec.ofNat 8 (0x09 + 16 * p.code)]) ∧
    ∀ s, Completes (Instr.addHlPair p) s fun t =>
      t.hl = s.hl + s.pair p ∧
      FlagsAre t s.zf false (decide (4095 < s.hl.toNat % 4096 + (s.pair p).toNat % 4096))
        (decide (65535 < s.hl.toNat + (s.pair p).toNat)) ∧
      SameRegsBut [.h, .l] s t ∧ t.sp = s.sp ∧ t.pc = s.pc ∧ SameControl s t ∧ SameMemory s t

/-! ## Accumulator rotates and flag operations -/

/-- O49. R450 to R453: RLCA, RRCA, RLA and RRA, with bit 7 or bit 0 to the carry and Z = N = H = 0. -/
def Obligations.AccumulatorRotates : Prop :=
  HasRow .rlca false (fun _ => [0x07]) ∧ HasRow .rrca false (fun _ => [0x0F]) ∧
  HasRow .rla false (fun _ => [0x17]) ∧ HasRow .rra false (fun _ => [0x1F]) ∧
  ∀ s : State,
    let rotated (r : Nat) (c : Bool) (t : State) : Prop :=
      t.a.toNat = r ∧ FlagsAre t false false false c ∧ SameRegsBut [.a] s t ∧ t.sp = s.sp ∧ t.pc = s.pc ∧ SameControl s t ∧
        SameMemory s t
    Completes .rlca s (rotated ((2 * s.a.toNat + s.a.toNat / 128) % 256) (s.a.getLsbD 7)) ∧
    Completes .rrca s (rotated (s.a.toNat / 2 + 128 * (s.a.toNat % 2)) (s.a.getLsbD 0)) ∧
    Completes .rla s (rotated ((2 * s.a.toNat + s.cf.toNat) % 256) (s.a.getLsbD 7)) ∧
    Completes .rra s (rotated (s.a.toNat / 2 + 128 * s.cf.toNat) (s.a.getLsbD 0))

/-- O50. R454: DAA, for every A, N, H and C. The two corrections are chosen from the old A, since adding 0x60 leaves the low nibble. -/
def Obligations.DecimalAdjust : Prop :=
  HasRow .daa false (fun _ => [0x27]) ∧
  ∀ s, Completes .daa s fun t =>
    let high : Bool := s.cf || decide (0x99 < s.a.toNat)
    let low : Bool := s.hf || decide (9 < s.a.toNat % 16)
    (s.nf = false → t.a.toNat = (s.a.toNat + (if high then 0x60 else 0) + (if low then 0x06 else 0)) % 256) ∧
    (s.nf = true →
      (t.a.toNat : Int) = ((s.a.toNat : Int) - (if s.cf then 0x60 else 0) - (if s.hf then 0x06 else 0)) % 256) ∧
    FlagsAre t (decide (t.a = 0)) s.nf false (if s.nf then s.cf else high) ∧
    SameRegsBut [.a] s t ∧ t.sp = s.sp ∧ t.pc = s.pc ∧ SameControl s t ∧ SameMemory s t

/-- O51. R455 to R457: CPL, SCF and CCF. -/
def Obligations.ComplementAndCarry : Prop :=
  HasRow .cpl false (fun _ => [0x2F]) ∧ HasRow .scf false (fun _ => [0x37]) ∧ HasRow .ccf false (fun _ => [0x3F]) ∧
  ∀ s : State,
    let kept (t : State) : Prop := SameRegsBut [.a] s t ∧ t.sp = s.sp ∧ t.pc = s.pc ∧ SameControl s t ∧ SameMemory s t
    (Completes .cpl s fun t => t.a.toNat = 255 - s.a.toNat ∧ FlagsAre t s.zf true true s.cf ∧ kept t) ∧
    (Completes .scf s fun t => t.a = s.a ∧ FlagsAre t s.zf false false true ∧ kept t) ∧
    Completes .ccf s fun t => t.a = s.a ∧ FlagsAre t s.zf false false (!s.cf) ∧ kept t

/-! ## The CB space -/

/-- O52. R500 to R507: the CB rotates, shifts and SWAP of a register or the byte at HL, as arithmetic on the byte's value `v`; Z is
computed, N = H = 0, C is the bit that leaves (0 for SWAP). -/
def Obligations.CbRotatesAndShifts : Prop :=
  ∀ (op : RotOp) (o : Operand8),
    HasRow (Instr.rot op o) false (fun _ => [0xCB, BitVec.ofNat 8 (8 * op.code + o.code)]) ∧
    ∀ s : State,
      let v : Nat := (s.operand o).toNat
      let r : Nat :=
        match op with
        | .rlc => (2 * v + v / 128) % 256
        | .rrc => v / 2 + 128 * (v % 2)
        | .rl => (2 * v + s.cf.toNat) % 256
        | .rr => v / 2 + 128 * s.cf.toNat
        | .sla => 2 * v % 256
        | .sra => v / 2 + 128 * (v / 128)
        | .swap => 16 * (v % 16) + v / 16
        | .srl => v / 2
      let c : Bool :=
        match op with
        | .rlc => decide (128 ≤ v)
        | .rl => decide (128 ≤ v)
        | .sla => decide (128 ≤ v)
        | .swap => false
        | _ => decide (v % 2 = 1)
      Completes (Instr.rot op o) s fun t =>
        r < 256 ∧ OperandWritten o (BitVec.ofNat 8 r) s t ∧ FlagsAre t (decide (r = 0)) false false c ∧ t.sp = s.sp ∧
          t.pc = s.pc + 1 ∧ SameControl s t

/-- O53. R510: BIT b,s tests bit b and writes nothing back; C is unchanged. -/
def Obligations.BitTest : Prop :=
  ∀ (b : Oct) (o : Operand8),
    HasRow (Instr.bit b o) false (fun _ => [0xCB, BitVec.ofNat 8 (0x40 + 8 * b.toNat + o.code)]) ∧
    ∀ s, Completes (Instr.bit b o) s fun t =>
      FlagsAre t (!(s.operand o).getLsbD b.toNat) false true s.cf ∧ SameRegsBut [] s t ∧ t.sp = s.sp ∧ t.pc = s.pc + 1 ∧
        SameControl s t ∧ SameMemory s t

/-- O54. R511, R512: RES b,s and SET b,s write bit b of the operand and no other bit; F is unchanged. -/
def Obligations.BitResetAndSet : Prop :=
  ∀ (b : Oct) (o : Operand8) (on : Bool),
    let i : Instr := if on then Instr.set b o else Instr.res b o
    HasRow i false (fun _ => [0xCB, BitVec.ofNat 8 ((if on then 0xC0 else 0x80) + 8 * b.toNat + o.code)]) ∧
    ∀ s, Completes i s fun t =>
      (∃ r : Byte, (∀ k, k < 8 → r.getLsbD k = if k = b.toNat then on else (s.operand o).getLsbD k) ∧
        OperandWritten o r s t) ∧
      t.f = s.f ∧ t.sp = s.sp ∧ t.pc = s.pc + 1 ∧ SameControl s t

/-- O55. R133: the handler of the byte 0xCB reads the byte at pc and runs the CB row that this byte selects; the row's own bytes are 0xCB
and that byte, for all 256. -/
def Obligations.PrefixRunsSecondByte : Prop :=
  HasRow .prefixCb false (fun _ => [0xCB]) ∧ (∀ (c : Byte) (o : WordOrder), encode o (decodeCb c) = [0xCB, c]) ∧
  ∀ s : State, ∃ t, exec .prefixCb s = .next t ∧ exec (decodeCb (s.readByte s.pc)) s = .next t

/-! ## Control transfer -/

/-- O56. R550 to R554: JP nn, JP cc,nn, JP HL, JR e and JR cc,e: only pc is written; a jump not taken goes on after the immediate, and a
relative jump is taken from there. -/
def Obligations.Jumps : Prop :=
  ∀ (cc : Cond) (nn : Word) (e : Byte),
    HasRow (.jpA16 nn) false (fun o => 0xC3 :: wordBytes o nn) ∧
    HasRow (Instr.jpCond cc nn) false (fun o => BitVec.ofNat 8 (0xC2 + 8 * cc.code) :: wordBytes o nn) ∧
    HasRow .jpHl false (fun _ => [0xE9]) ∧ HasRow (.jrE8 e) false (fun _ => [0x18, e]) ∧
    HasRow (Instr.jrCond cc e) false (fun _ => [BitVec.ofNat 8 (0x20 + 8 * cc.code), e]) ∧
    ∀ s : State,
      let holds : Bool := match cc with | .nz => !s.zf | .z => s.zf | .nc => !s.cf | .c => s.cf
      exec (.jpA16 nn) s = .next { s with pc := nn } ∧
      exec (Instr.jpCond cc nn) s = .next { s with pc := if holds then nn else s.pc + 2 } ∧
      exec .jpHl s = .next { s with pc := joinBytes s.h s.l } ∧
      exec (.jrE8 e) s = .next { s with pc := s.pc + 1 + BitVec.ofInt 16 e.toInt } ∧
      exec (Instr.jrCond cc e) s = .next { s with pc := if holds then s.pc + 1 + BitVec.ofInt 16 e.toInt else s.pc + 1 }

/-- O57. R555, R556, R560: CALL nn, CALL cc,nn and RST t push the address of the next instruction, low byte at the new sp, and go to the
target; CALL cc with a false condition only passes its immediate. -/
def Obligations.CallsAndRestarts : Prop :=
  ∀ (cc : Cond) (nn : Word) (n : Oct),
    HasRow (.callA16 nn) false (fun o => 0xCD :: wordBytes o nn) ∧
    HasRow (Instr.callCond cc nn) false (fun o => BitVec.ofNat 8 (0xC4 + 8 * cc.code) :: wordBytes o nn) ∧
    HasRow (Instr.rst n) false (fun _ => [BitVec.ofNat 8 (0xC7 + 8 * n.toNat)]) ∧
    ∀ s : State,
      let holds : Bool := match cc with | .nz => !s.zf | .z => s.zf | .nc => !s.cf | .c => s.cf
      let called (target ret : Word) (t : State) : Prop :=
        t.pc = target ∧ t.sp = s.sp - 2 ∧ t.readByte (s.sp - 1) = hi8 ret ∧ t.readByte (s.sp - 2) = lo8 ret ∧
          SameMemoryBut [s.sp - 1, s.sp - 2] s t ∧ SameRegsBut [] s t ∧ t.f = s.f ∧ SameControl s t
      Completes (.callA16 nn) s (called nn (s.pc + 2)) ∧
      (holds = true → Completes (Instr.callCond cc nn) s (called nn (s.pc + 2))) ∧
      (holds = false → exec (Instr.callCond cc nn) s = .next { s with pc := s.pc + 2 }) ∧
      Completes (Instr.rst n) s (called (BitVec.ofNat 16 (8 * n.toNat)) s.pc)

/-- O58. R557 to R559: RET, RET cc and RETI pop pc; RET cc with a false condition does nothing; RETI also sets IME at once and clears
ime_pending. -/
def Obligations.Returns : Prop :=
  ∀ (cc : Cond),
    HasRow .ret false (fun _ => [0xC9]) ∧ HasRow (Instr.retCond cc) false (fun _ => [BitVec.ofNat 8 (0xC0 + 8 * cc.code)]) ∧
    HasRow .reti false (fun _ => [0xD9]) ∧
    ∀ s : State,
      let holds : Bool := match cc with | .nz => !s.zf | .z => s.zf | .nc => !s.cf | .c => s.cf
      let top : Word := joinBytes (s.readByte (s.sp + 1)) (s.readByte s.sp)
      exec .ret s = .next { s with pc := top, sp := s.sp + 2 } ∧
      exec (Instr.retCond cc) s = .next (if holds then { s with pc := top, sp := s.sp + 2 } else s) ∧
      exec .reti s = .next { s with pc := top, sp := s.sp + 2, ime := true, imePending := false }

/-! ## System instructions -/

/-- O59. R600, R602, R604: NOP changes nothing, STOP passes its second byte and stops the core with last_error as it was, DI clears IME
and ime_pending. EI (R605) sets ime_pending and no more; its delay is O29. -/
def Obligations.NopStopDiEi : Prop :=
  HasRow .nop false (fun _ => [0x00]) ∧ (∀ x, HasRow (.stop x) false (fun _ => [0x10, x])) ∧
  HasRow .di false (fun _ => [0xF3]) ∧ HasRow .ei false (fun _ => [0xFB]) ∧
  ∀ s : State,
    exec .nop s = .next s ∧
    (∀ x, exec (.stop x) s = .next { s with pc := s.pc + 1, runState := .stopped }) ∧
    exec .di s = .next { s with ime := false, imePending := false } ∧
    exec .ei s = .next { s with imePending := true }

/-- O60. R601: HALT enters Halted, but under FULL with IME = 0 and a request sampled at this step's boundary it sets halt_bug instead and
the core stays as it is. -/
def Obligations.HaltOrHaltBug : Prop :=
  HasRow .halt true (fun _ => [0x76]) ∧
  ∀ s : State,
    (s.params.profile = .full ∧ s.ime = false ∧ s.irqNow ≠ none → exec .halt s = .next { s with haltBug := true }) ∧
    (¬(s.params.profile = .full ∧ s.ime = false ∧ s.irqNow ≠ none) → exec .halt s = .next { s with runState := .halted })
end

