-- ==== Sys2Proof/Laws/Bits.lean ====
section
/-! SUPPORT. Bytes and words: splitting a word and joining its bytes are inverse to each other, in either byte order. -/

namespace Sys2Proof

@[simp] theorem hi8_joinBytes (hi lo : Byte) : hi8 (joinBytes hi lo) = hi := by
  apply BitVec.eq_of_getLsbD_eq
  intro i h
  simp only [hi8, joinBytes, BitVec.getLsbD_extractLsb', BitVec.getLsbD_append, h, decide_true, Bool.true_and]
  rw [if_neg (by omega)]
  congr 1
  omega

@[simp] theorem lo8_joinBytes (hi lo : Byte) : lo8 (joinBytes hi lo) = lo := by
  apply BitVec.eq_of_getLsbD_eq
  intro i h
  simp only [lo8, joinBytes, BitVec.getLsbD_extractLsb', BitVec.getLsbD_append, h, decide_true, Bool.true_and, Nat.zero_add]
  rw [if_pos trivial]

@[simp] theorem joinBytes_split (v : Word) : joinBytes (hi8 v) (lo8 v) = v := by
  apply BitVec.eq_of_getLsbD_eq
  intro i h
  simp only [hi8, lo8, joinBytes, BitVec.getLsbD_append, BitVec.getLsbD_extractLsb', Nat.zero_add]
  split
  · simp [*]
  · have h8 : i - 8 < 8 := by omega
    have hi : 8 + (i - 8) = i := by omega
    simp [h8, hi]

@[simp] theorem wordOfBytes_split (o : WordOrder) (v : Word) : wordOfBytes o (firstByte o v) (secondByte o v) = v := by
  cases o <;> exact joinBytes_split v

@[simp] theorem firstByte_wordOfBytes (o : WordOrder) (b0 b1 : Byte) : firstByte o (wordOfBytes o b0 b1) = b0 := by
  cases o
  · exact hi8_joinBytes _ _
  · exact lo8_joinBytes _ _

@[simp] theorem secondByte_wordOfBytes (o : WordOrder) (b0 b1 : Byte) : secondByte o (wordOfBytes o b0 b1) = b1 := by
  cases o
  · exact lo8_joinBytes _ _
  · exact hi8_joinBytes _ _

end Sys2Proof
end

