-- ==== Sys2Proof/Laws/Decode.lean ====
section
/-! SUPPORT. Decoding the head of a byte list, said once: what the decoder answers for the opcode and the two bytes after it is the
answer for the list, if the list is long enough. -/

namespace Sys2Proof

/-- The head of a list that holds a complete instruction. -/
theorem decodeBytes_cons {p : Profile} {o : WordOrder} {c : Byte} {rest : List Byte} {i : Instr}
    (h : decode p o c (rest.getD 0 0) (rest.getD 1 0) = .instr i) (hl : i.length ≤ rest.length + 1) :
    decodeBytes p o (c :: rest) = .ok (i, rest.drop (i.length - 1)) := by
  simp only [decodeBytes, h]
  rw [if_neg (by omega)]

/-- What follows the byte 0xCB under FULL is a row of the CB space (30_encoding.md R133). -/
theorem decode_prefixed (o : WordOrder) (b1 b2 : Byte) : decode .full o 0xCB b1 b2 = .instr (decodeCb b1) := rfl

/-- Under FULL every opcode byte but 0xCB is decoded by the base space alone (30_encoding.md R131). -/
theorem decode_full {o : WordOrder} {c b1 b2 : Byte} (h : decodeBase o c b1 b2 ≠ .prefixCb) :
    decode .full o c b1 b2 = .instr (decodeBase o c b1 b2) := by
  simp only [decode, decodeOpcode]
  split
  · rename_i e
    exact absurd (Decoded.instr.inj e) h
  · rfl

end Sys2Proof
end

