-- ==== Sys2Proof/Laws/State.lean ====
section
/-! SUPPORT. What each named update of the state does to each field, and to the views computed from the fields: one rewriting
lemma per field per update, so that a proof never unfolds a record update. -/

namespace Sys2Proof.Machine

/-! ## Fields -/

@[simp] theorem State.writeByte_params (s : State) (addr : Word) (v : Byte) : (s.writeByte addr v).params = s.params := rfl
@[simp] theorem State.writeByte_a (s : State) (addr : Word) (v : Byte) : (s.writeByte addr v).a = s.a := rfl
@[simp] theorem State.writeByte_f (s : State) (addr : Word) (v : Byte) : (s.writeByte addr v).f = s.f := rfl
@[simp] theorem State.writeByte_b (s : State) (addr : Word) (v : Byte) : (s.writeByte addr v).b = s.b := rfl
@[simp] theorem State.writeByte_c (s : State) (addr : Word) (v : Byte) : (s.writeByte addr v).c = s.c := rfl
@[simp] theorem State.writeByte_d (s : State) (addr : Word) (v : Byte) : (s.writeByte addr v).d = s.d := rfl
@[simp] theorem State.writeByte_e (s : State) (addr : Word) (v : Byte) : (s.writeByte addr v).e = s.e := rfl
@[simp] theorem State.writeByte_h (s : State) (addr : Word) (v : Byte) : (s.writeByte addr v).h = s.h := rfl
@[simp] theorem State.writeByte_l (s : State) (addr : Word) (v : Byte) : (s.writeByte addr v).l = s.l := rfl
@[simp] theorem State.writeByte_sp (s : State) (addr : Word) (v : Byte) : (s.writeByte addr v).sp = s.sp := rfl
@[simp] theorem State.writeByte_pc (s : State) (addr : Word) (v : Byte) : (s.writeByte addr v).pc = s.pc := rfl
@[simp] theorem State.writeByte_ime (s : State) (addr : Word) (v : Byte) : (s.writeByte addr v).ime = s.ime := rfl
@[simp] theorem State.writeByte_imePending (s : State) (addr : Word) (v : Byte) : (s.writeByte addr v).imePending = s.imePending := rfl
@[simp] theorem State.writeByte_haltBug (s : State) (addr : Word) (v : Byte) : (s.writeByte addr v).haltBug = s.haltBug := rfl
@[simp] theorem State.writeByte_runState (s : State) (addr : Word) (v : Byte) : (s.writeByte addr v).runState = s.runState := rfl
@[simp] theorem State.writeByte_lastError (s : State) (addr : Word) (v : Byte) : (s.writeByte addr v).lastError = s.lastError := rfl
@[simp] theorem State.writeByte_irqNow (s : State) (addr : Word) (v : Byte) : (s.writeByte addr v).irqNow = s.irqNow := rfl
@[simp] theorem State.writeByte_irqAck (s : State) (addr : Word) (v : Byte) : (s.writeByte addr v).irqAck = s.irqAck := rfl
@[simp] theorem State.writeByte_inputs (s : State) (addr : Word) (v : Byte) : (s.writeByte addr v).inputs = s.inputs := rfl
@[simp] theorem State.writeByte_boundaries (s : State) (addr : Word) (v : Byte) : (s.writeByte addr v).boundaries = s.boundaries := rfl
@[simp] theorem State.writeByte_mem (s : State) (addr : Word) (v : Byte) : (s.writeByte addr v).mem = memWrite s.mem addr.toNat v := rfl

@[simp] theorem State.writeWord_params (s : State) (addr v : Word) : (s.writeWord addr v).params = s.params := rfl
@[simp] theorem State.writeWord_a (s : State) (addr v : Word) : (s.writeWord addr v).a = s.a := rfl
@[simp] theorem State.writeWord_f (s : State) (addr v : Word) : (s.writeWord addr v).f = s.f := rfl
@[simp] theorem State.writeWord_b (s : State) (addr v : Word) : (s.writeWord addr v).b = s.b := rfl
@[simp] theorem State.writeWord_c (s : State) (addr v : Word) : (s.writeWord addr v).c = s.c := rfl
@[simp] theorem State.writeWord_d (s : State) (addr v : Word) : (s.writeWord addr v).d = s.d := rfl
@[simp] theorem State.writeWord_e (s : State) (addr v : Word) : (s.writeWord addr v).e = s.e := rfl
@[simp] theorem State.writeWord_h (s : State) (addr v : Word) : (s.writeWord addr v).h = s.h := rfl
@[simp] theorem State.writeWord_l (s : State) (addr v : Word) : (s.writeWord addr v).l = s.l := rfl
@[simp] theorem State.writeWord_sp (s : State) (addr v : Word) : (s.writeWord addr v).sp = s.sp := rfl
@[simp] theorem State.writeWord_pc (s : State) (addr v : Word) : (s.writeWord addr v).pc = s.pc := rfl
@[simp] theorem State.writeWord_ime (s : State) (addr v : Word) : (s.writeWord addr v).ime = s.ime := rfl
@[simp] theorem State.writeWord_imePending (s : State) (addr v : Word) : (s.writeWord addr v).imePending = s.imePending := rfl
@[simp] theorem State.writeWord_haltBug (s : State) (addr v : Word) : (s.writeWord addr v).haltBug = s.haltBug := rfl
@[simp] theorem State.writeWord_runState (s : State) (addr v : Word) : (s.writeWord addr v).runState = s.runState := rfl
@[simp] theorem State.writeWord_lastError (s : State) (addr v : Word) : (s.writeWord addr v).lastError = s.lastError := rfl
@[simp] theorem State.writeWord_irqNow (s : State) (addr v : Word) : (s.writeWord addr v).irqNow = s.irqNow := rfl
@[simp] theorem State.writeWord_irqAck (s : State) (addr v : Word) : (s.writeWord addr v).irqAck = s.irqAck := rfl
@[simp] theorem State.writeWord_inputs (s : State) (addr v : Word) : (s.writeWord addr v).inputs = s.inputs := rfl
@[simp] theorem State.writeWord_boundaries (s : State) (addr v : Word) : (s.writeWord addr v).boundaries = s.boundaries := rfl

@[simp] theorem State.setReg_params (s : State) (r : Reg8) (v : Byte) : (s.setReg r v).params = s.params := by cases r <;> rfl
@[simp] theorem State.setReg_f (s : State) (r : Reg8) (v : Byte) : (s.setReg r v).f = s.f := by cases r <;> rfl
@[simp] theorem State.setReg_sp (s : State) (r : Reg8) (v : Byte) : (s.setReg r v).sp = s.sp := by cases r <;> rfl
@[simp] theorem State.setReg_pc (s : State) (r : Reg8) (v : Byte) : (s.setReg r v).pc = s.pc := by cases r <;> rfl
@[simp] theorem State.setReg_ime (s : State) (r : Reg8) (v : Byte) : (s.setReg r v).ime = s.ime := by cases r <;> rfl
@[simp] theorem State.setReg_imePending (s : State) (r : Reg8) (v : Byte) : (s.setReg r v).imePending = s.imePending := by cases r <;> rfl
@[simp] theorem State.setReg_haltBug (s : State) (r : Reg8) (v : Byte) : (s.setReg r v).haltBug = s.haltBug := by cases r <;> rfl
@[simp] theorem State.setReg_runState (s : State) (r : Reg8) (v : Byte) : (s.setReg r v).runState = s.runState := by cases r <;> rfl
@[simp] theorem State.setReg_lastError (s : State) (r : Reg8) (v : Byte) : (s.setReg r v).lastError = s.lastError := by cases r <;> rfl
@[simp] theorem State.setReg_irqNow (s : State) (r : Reg8) (v : Byte) : (s.setReg r v).irqNow = s.irqNow := by cases r <;> rfl
@[simp] theorem State.setReg_irqAck (s : State) (r : Reg8) (v : Byte) : (s.setReg r v).irqAck = s.irqAck := by cases r <;> rfl
@[simp] theorem State.setReg_inputs (s : State) (r : Reg8) (v : Byte) : (s.setReg r v).inputs = s.inputs := by cases r <;> rfl
@[simp] theorem State.setReg_boundaries (s : State) (r : Reg8) (v : Byte) : (s.setReg r v).boundaries = s.boundaries := by cases r <;> rfl
@[simp] theorem State.setReg_mem (s : State) (r : Reg8) (v : Byte) : (s.setReg r v).mem = s.mem := by cases r <;> rfl

@[simp] theorem State.setFlagReg_params (s : State) (v : Byte) : (s.setFlagReg v).params = s.params := rfl
@[simp] theorem State.setFlagReg_a (s : State) (v : Byte) : (s.setFlagReg v).a = s.a := rfl
@[simp] theorem State.setFlagReg_f (s : State) (v : Byte) : (s.setFlagReg v).f = v &&& 0xF0 := rfl
@[simp] theorem State.setFlagReg_b (s : State) (v : Byte) : (s.setFlagReg v).b = s.b := rfl
@[simp] theorem State.setFlagReg_c (s : State) (v : Byte) : (s.setFlagReg v).c = s.c := rfl
@[simp] theorem State.setFlagReg_d (s : State) (v : Byte) : (s.setFlagReg v).d = s.d := rfl
@[simp] theorem State.setFlagReg_e (s : State) (v : Byte) : (s.setFlagReg v).e = s.e := rfl
@[simp] theorem State.setFlagReg_h (s : State) (v : Byte) : (s.setFlagReg v).h = s.h := rfl
@[simp] theorem State.setFlagReg_l (s : State) (v : Byte) : (s.setFlagReg v).l = s.l := rfl
@[simp] theorem State.setFlagReg_sp (s : State) (v : Byte) : (s.setFlagReg v).sp = s.sp := rfl
@[simp] theorem State.setFlagReg_pc (s : State) (v : Byte) : (s.setFlagReg v).pc = s.pc := rfl
@[simp] theorem State.setFlagReg_ime (s : State) (v : Byte) : (s.setFlagReg v).ime = s.ime := rfl
@[simp] theorem State.setFlagReg_imePending (s : State) (v : Byte) : (s.setFlagReg v).imePending = s.imePending := rfl
@[simp] theorem State.setFlagReg_haltBug (s : State) (v : Byte) : (s.setFlagReg v).haltBug = s.haltBug := rfl
@[simp] theorem State.setFlagReg_runState (s : State) (v : Byte) : (s.setFlagReg v).runState = s.runState := rfl
@[simp] theorem State.setFlagReg_lastError (s : State) (v : Byte) : (s.setFlagReg v).lastError = s.lastError := rfl
@[simp] theorem State.setFlagReg_irqNow (s : State) (v : Byte) : (s.setFlagReg v).irqNow = s.irqNow := rfl
@[simp] theorem State.setFlagReg_irqAck (s : State) (v : Byte) : (s.setFlagReg v).irqAck = s.irqAck := rfl
@[simp] theorem State.setFlagReg_inputs (s : State) (v : Byte) : (s.setFlagReg v).inputs = s.inputs := rfl
@[simp] theorem State.setFlagReg_boundaries (s : State) (v : Byte) : (s.setFlagReg v).boundaries = s.boundaries := rfl
@[simp] theorem State.setFlagReg_mem (s : State) (v : Byte) : (s.setFlagReg v).mem = s.mem := rfl

@[simp] theorem State.setHl_params (s : State) (v : Word) : (s.setHl v).params = s.params := rfl
@[simp] theorem State.setHl_a (s : State) (v : Word) : (s.setHl v).a = s.a := rfl
@[simp] theorem State.setHl_f (s : State) (v : Word) : (s.setHl v).f = s.f := rfl
@[simp] theorem State.setHl_b (s : State) (v : Word) : (s.setHl v).b = s.b := rfl
@[simp] theorem State.setHl_c (s : State) (v : Word) : (s.setHl v).c = s.c := rfl
@[simp] theorem State.setHl_d (s : State) (v : Word) : (s.setHl v).d = s.d := rfl
@[simp] theorem State.setHl_e (s : State) (v : Word) : (s.setHl v).e = s.e := rfl
@[simp] theorem State.setHl_h (s : State) (v : Word) : (s.setHl v).h = hi8 v := rfl
@[simp] theorem State.setHl_l (s : State) (v : Word) : (s.setHl v).l = lo8 v := rfl
@[simp] theorem State.setHl_sp (s : State) (v : Word) : (s.setHl v).sp = s.sp := rfl
@[simp] theorem State.setHl_pc (s : State) (v : Word) : (s.setHl v).pc = s.pc := rfl
@[simp] theorem State.setHl_ime (s : State) (v : Word) : (s.setHl v).ime = s.ime := rfl
@[simp] theorem State.setHl_imePending (s : State) (v : Word) : (s.setHl v).imePending = s.imePending := rfl
@[simp] theorem State.setHl_haltBug (s : State) (v : Word) : (s.setHl v).haltBug = s.haltBug := rfl
@[simp] theorem State.setHl_runState (s : State) (v : Word) : (s.setHl v).runState = s.runState := rfl
@[simp] theorem State.setHl_lastError (s : State) (v : Word) : (s.setHl v).lastError = s.lastError := rfl
@[simp] theorem State.setHl_irqNow (s : State) (v : Word) : (s.setHl v).irqNow = s.irqNow := rfl
@[simp] theorem State.setHl_irqAck (s : State) (v : Word) : (s.setHl v).irqAck = s.irqAck := rfl
@[simp] theorem State.setHl_inputs (s : State) (v : Word) : (s.setHl v).inputs = s.inputs := rfl
@[simp] theorem State.setHl_boundaries (s : State) (v : Word) : (s.setHl v).boundaries = s.boundaries := rfl
@[simp] theorem State.setHl_mem (s : State) (v : Word) : (s.setHl v).mem = s.mem := rfl

/-- A pair other than sp leaves sp alone. -/
theorem State.setPair_sp {p : Pair} (h : p ≠ .sp) (s : State) (v : Word) : (s.setPair p v).sp = s.sp := by
  cases p <;> first | rfl | exact absurd rfl h

@[simp] theorem State.setPair_params (s : State) (p : Pair) (v : Word) : (s.setPair p v).params = s.params := by cases p <;> rfl
@[simp] theorem State.setPair_a (s : State) (p : Pair) (v : Word) : (s.setPair p v).a = s.a := by cases p <;> rfl
@[simp] theorem State.setPair_f (s : State) (p : Pair) (v : Word) : (s.setPair p v).f = s.f := by cases p <;> rfl
@[simp] theorem State.setPair_pc (s : State) (p : Pair) (v : Word) : (s.setPair p v).pc = s.pc := by cases p <;> rfl
@[simp] theorem State.setPair_ime (s : State) (p : Pair) (v : Word) : (s.setPair p v).ime = s.ime := by cases p <;> rfl
@[simp] theorem State.setPair_imePending (s : State) (p : Pair) (v : Word) : (s.setPair p v).imePending = s.imePending := by cases p <;> rfl
@[simp] theorem State.setPair_haltBug (s : State) (p : Pair) (v : Word) : (s.setPair p v).haltBug = s.haltBug := by cases p <;> rfl
@[simp] theorem State.setPair_runState (s : State) (p : Pair) (v : Word) : (s.setPair p v).runState = s.runState := by cases p <;> rfl
@[simp] theorem State.setPair_lastError (s : State) (p : Pair) (v : Word) : (s.setPair p v).lastError = s.lastError := by cases p <;> rfl
@[simp] theorem State.setPair_irqNow (s : State) (p : Pair) (v : Word) : (s.setPair p v).irqNow = s.irqNow := by cases p <;> rfl
@[simp] theorem State.setPair_irqAck (s : State) (p : Pair) (v : Word) : (s.setPair p v).irqAck = s.irqAck := by cases p <;> rfl
@[simp] theorem State.setPair_inputs (s : State) (p : Pair) (v : Word) : (s.setPair p v).inputs = s.inputs := by cases p <;> rfl
@[simp] theorem State.setPair_boundaries (s : State) (p : Pair) (v : Word) : (s.setPair p v).boundaries = s.boundaries := by cases p <;> rfl
@[simp] theorem State.setPair_mem (s : State) (p : Pair) (v : Word) : (s.setPair p v).mem = s.mem := by cases p <;> rfl

@[simp] theorem State.setStackPair_params (s : State) (p : StackPair) (v : Word) : (s.setStackPair p v).params = s.params := by cases p <;> rfl
@[simp] theorem State.setStackPair_sp (s : State) (p : StackPair) (v : Word) : (s.setStackPair p v).sp = s.sp := by cases p <;> rfl
@[simp] theorem State.setStackPair_pc (s : State) (p : StackPair) (v : Word) : (s.setStackPair p v).pc = s.pc := by cases p <;> rfl
@[simp] theorem State.setStackPair_ime (s : State) (p : StackPair) (v : Word) : (s.setStackPair p v).ime = s.ime := by cases p <;> rfl
@[simp] theorem State.setStackPair_imePending (s : State) (p : StackPair) (v : Word) : (s.setStackPair p v).imePending = s.imePending := by cases p <;> rfl
@[simp] theorem State.setStackPair_haltBug (s : State) (p : StackPair) (v : Word) : (s.setStackPair p v).haltBug = s.haltBug := by cases p <;> rfl
@[simp] theorem State.setStackPair_runState (s : State) (p : StackPair) (v : Word) : (s.setStackPair p v).runState = s.runState := by cases p <;> rfl
@[simp] theorem State.setStackPair_lastError (s : State) (p : StackPair) (v : Word) : (s.setStackPair p v).lastError = s.lastError := by cases p <;> rfl
@[simp] theorem State.setStackPair_irqNow (s : State) (p : StackPair) (v : Word) : (s.setStackPair p v).irqNow = s.irqNow := by cases p <;> rfl
@[simp] theorem State.setStackPair_irqAck (s : State) (p : StackPair) (v : Word) : (s.setStackPair p v).irqAck = s.irqAck := by cases p <;> rfl
@[simp] theorem State.setStackPair_inputs (s : State) (p : StackPair) (v : Word) : (s.setStackPair p v).inputs = s.inputs := by cases p <;> rfl
@[simp] theorem State.setStackPair_boundaries (s : State) (p : StackPair) (v : Word) : (s.setStackPair p v).boundaries = s.boundaries := by cases p <;> rfl
@[simp] theorem State.setStackPair_mem (s : State) (p : StackPair) (v : Word) : (s.setStackPair p v).mem = s.mem := by cases p <;> rfl

@[simp] theorem State.setFlags_params (s : State) (z n hc cy : Bool) : (s.setFlags z n hc cy).params = s.params := rfl
@[simp] theorem State.setFlags_a (s : State) (z n hc cy : Bool) : (s.setFlags z n hc cy).a = s.a := rfl
@[simp] theorem State.setFlags_f (s : State) (z n hc cy : Bool) : (s.setFlags z n hc cy).f = flagByte z n hc cy := rfl
@[simp] theorem State.setFlags_b (s : State) (z n hc cy : Bool) : (s.setFlags z n hc cy).b = s.b := rfl
@[simp] theorem State.setFlags_c (s : State) (z n hc cy : Bool) : (s.setFlags z n hc cy).c = s.c := rfl
@[simp] theorem State.setFlags_d (s : State) (z n hc cy : Bool) : (s.setFlags z n hc cy).d = s.d := rfl
@[simp] theorem State.setFlags_e (s : State) (z n hc cy : Bool) : (s.setFlags z n hc cy).e = s.e := rfl
@[simp] theorem State.setFlags_h (s : State) (z n hc cy : Bool) : (s.setFlags z n hc cy).h = s.h := rfl
@[simp] theorem State.setFlags_l (s : State) (z n hc cy : Bool) : (s.setFlags z n hc cy).l = s.l := rfl
@[simp] theorem State.setFlags_sp (s : State) (z n hc cy : Bool) : (s.setFlags z n hc cy).sp = s.sp := rfl
@[simp] theorem State.setFlags_pc (s : State) (z n hc cy : Bool) : (s.setFlags z n hc cy).pc = s.pc := rfl
@[simp] theorem State.setFlags_ime (s : State) (z n hc cy : Bool) : (s.setFlags z n hc cy).ime = s.ime := rfl
@[simp] theorem State.setFlags_imePending (s : State) (z n hc cy : Bool) : (s.setFlags z n hc cy).imePending = s.imePending := rfl
@[simp] theorem State.setFlags_haltBug (s : State) (z n hc cy : Bool) : (s.setFlags z n hc cy).haltBug = s.haltBug := rfl
@[simp] theorem State.setFlags_runState (s : State) (z n hc cy : Bool) : (s.setFlags z n hc cy).runState = s.runState := rfl
@[simp] theorem State.setFlags_lastError (s : State) (z n hc cy : Bool) : (s.setFlags z n hc cy).lastError = s.lastError := rfl
@[simp] theorem State.setFlags_irqNow (s : State) (z n hc cy : Bool) : (s.setFlags z n hc cy).irqNow = s.irqNow := rfl
@[simp] theorem State.setFlags_irqAck (s : State) (z n hc cy : Bool) : (s.setFlags z n hc cy).irqAck = s.irqAck := rfl
@[simp] theorem State.setFlags_inputs (s : State) (z n hc cy : Bool) : (s.setFlags z n hc cy).inputs = s.inputs := rfl
@[simp] theorem State.setFlags_boundaries (s : State) (z n hc cy : Bool) : (s.setFlags z n hc cy).boundaries = s.boundaries := rfl
@[simp] theorem State.setFlags_mem (s : State) (z n hc cy : Bool) : (s.setFlags z n hc cy).mem = s.mem := rfl

@[simp] theorem State.advance_params (s : State) (n : Nat) : (s.advance n).params = s.params := rfl
@[simp] theorem State.advance_a (s : State) (n : Nat) : (s.advance n).a = s.a := rfl
@[simp] theorem State.advance_f (s : State) (n : Nat) : (s.advance n).f = s.f := rfl
@[simp] theorem State.advance_b (s : State) (n : Nat) : (s.advance n).b = s.b := rfl
@[simp] theorem State.advance_c (s : State) (n : Nat) : (s.advance n).c = s.c := rfl
@[simp] theorem State.advance_d (s : State) (n : Nat) : (s.advance n).d = s.d := rfl
@[simp] theorem State.advance_e (s : State) (n : Nat) : (s.advance n).e = s.e := rfl
@[simp] theorem State.advance_h (s : State) (n : Nat) : (s.advance n).h = s.h := rfl
@[simp] theorem State.advance_l (s : State) (n : Nat) : (s.advance n).l = s.l := rfl
@[simp] theorem State.advance_sp (s : State) (n : Nat) : (s.advance n).sp = s.sp := rfl
@[simp] theorem State.advance_pc (s : State) (n : Nat) : (s.advance n).pc = s.pc + BitVec.ofNat 16 n := rfl
@[simp] theorem State.advance_ime (s : State) (n : Nat) : (s.advance n).ime = s.ime := rfl
@[simp] theorem State.advance_imePending (s : State) (n : Nat) : (s.advance n).imePending = s.imePending := rfl
@[simp] theorem State.advance_haltBug (s : State) (n : Nat) : (s.advance n).haltBug = s.haltBug := rfl
@[simp] theorem State.advance_runState (s : State) (n : Nat) : (s.advance n).runState = s.runState := rfl
@[simp] theorem State.advance_lastError (s : State) (n : Nat) : (s.advance n).lastError = s.lastError := rfl
@[simp] theorem State.advance_irqNow (s : State) (n : Nat) : (s.advance n).irqNow = s.irqNow := rfl
@[simp] theorem State.advance_irqAck (s : State) (n : Nat) : (s.advance n).irqAck = s.irqAck := rfl
@[simp] theorem State.advance_inputs (s : State) (n : Nat) : (s.advance n).inputs = s.inputs := rfl
@[simp] theorem State.advance_boundaries (s : State) (n : Nat) : (s.advance n).boundaries = s.boundaries := rfl
@[simp] theorem State.advance_mem (s : State) (n : Nat) : (s.advance n).mem = s.mem := rfl

@[simp] theorem State.jump_params (s : State) (target : Word) : (s.jump target).params = s.params := rfl
@[simp] theorem State.jump_a (s : State) (target : Word) : (s.jump target).a = s.a := rfl
@[simp] theorem State.jump_f (s : State) (target : Word) : (s.jump target).f = s.f := rfl
@[simp] theorem State.jump_b (s : State) (target : Word) : (s.jump target).b = s.b := rfl
@[simp] theorem State.jump_c (s : State) (target : Word) : (s.jump target).c = s.c := rfl
@[simp] theorem State.jump_d (s : State) (target : Word) : (s.jump target).d = s.d := rfl
@[simp] theorem State.jump_e (s : State) (target : Word) : (s.jump target).e = s.e := rfl
@[simp] theorem State.jump_h (s : State) (target : Word) : (s.jump target).h = s.h := rfl
@[simp] theorem State.jump_l (s : State) (target : Word) : (s.jump target).l = s.l := rfl
@[simp] theorem State.jump_sp (s : State) (target : Word) : (s.jump target).sp = s.sp := rfl
@[simp] theorem State.jump_pc (s : State) (target : Word) : (s.jump target).pc = target := rfl
@[simp] theorem State.jump_ime (s : State) (target : Word) : (s.jump target).ime = s.ime := rfl
@[simp] theorem State.jump_imePending (s : State) (target : Word) : (s.jump target).imePending = s.imePending := rfl
@[simp] theorem State.jump_haltBug (s : State) (target : Word) : (s.jump target).haltBug = s.haltBug := rfl
@[simp] theorem State.jump_runState (s : State) (target : Word) : (s.jump target).runState = s.runState := rfl
@[simp] theorem State.jump_lastError (s : State) (target : Word) : (s.jump target).lastError = s.lastError := rfl
@[simp] theorem State.jump_irqNow (s : State) (target : Word) : (s.jump target).irqNow = s.irqNow := rfl
@[simp] theorem State.jump_irqAck (s : State) (target : Word) : (s.jump target).irqAck = s.irqAck := rfl
@[simp] theorem State.jump_inputs (s : State) (target : Word) : (s.jump target).inputs = s.inputs := rfl
@[simp] theorem State.jump_boundaries (s : State) (target : Word) : (s.jump target).boundaries = s.boundaries := rfl
@[simp] theorem State.jump_mem (s : State) (target : Word) : (s.jump target).mem = s.mem := rfl

@[simp] theorem State.push16_params (s : State) (v : Word) : (s.push16 v).params = s.params := rfl
@[simp] theorem State.push16_a (s : State) (v : Word) : (s.push16 v).a = s.a := rfl
@[simp] theorem State.push16_f (s : State) (v : Word) : (s.push16 v).f = s.f := rfl
@[simp] theorem State.push16_b (s : State) (v : Word) : (s.push16 v).b = s.b := rfl
@[simp] theorem State.push16_c (s : State) (v : Word) : (s.push16 v).c = s.c := rfl
@[simp] theorem State.push16_d (s : State) (v : Word) : (s.push16 v).d = s.d := rfl
@[simp] theorem State.push16_e (s : State) (v : Word) : (s.push16 v).e = s.e := rfl
@[simp] theorem State.push16_h (s : State) (v : Word) : (s.push16 v).h = s.h := rfl
@[simp] theorem State.push16_l (s : State) (v : Word) : (s.push16 v).l = s.l := rfl
@[simp] theorem State.push16_sp (s : State) (v : Word) : (s.push16 v).sp = s.sp - 2 := rfl
@[simp] theorem State.push16_pc (s : State) (v : Word) : (s.push16 v).pc = s.pc := rfl
@[simp] theorem State.push16_ime (s : State) (v : Word) : (s.push16 v).ime = s.ime := rfl
@[simp] theorem State.push16_imePending (s : State) (v : Word) : (s.push16 v).imePending = s.imePending := rfl
@[simp] theorem State.push16_haltBug (s : State) (v : Word) : (s.push16 v).haltBug = s.haltBug := rfl
@[simp] theorem State.push16_runState (s : State) (v : Word) : (s.push16 v).runState = s.runState := rfl
@[simp] theorem State.push16_lastError (s : State) (v : Word) : (s.push16 v).lastError = s.lastError := rfl
@[simp] theorem State.push16_irqNow (s : State) (v : Word) : (s.push16 v).irqNow = s.irqNow := rfl
@[simp] theorem State.push16_irqAck (s : State) (v : Word) : (s.push16 v).irqAck = s.irqAck := rfl
@[simp] theorem State.push16_inputs (s : State) (v : Word) : (s.push16 v).inputs = s.inputs := rfl
@[simp] theorem State.push16_boundaries (s : State) (v : Word) : (s.push16 v).boundaries = s.boundaries := rfl

@[simp] theorem State.setRunState_params (s : State) (r : RunState) : (s.setRunState r).params = s.params := rfl
@[simp] theorem State.setRunState_a (s : State) (r : RunState) : (s.setRunState r).a = s.a := rfl
@[simp] theorem State.setRunState_f (s : State) (r : RunState) : (s.setRunState r).f = s.f := rfl
@[simp] theorem State.setRunState_b (s : State) (r : RunState) : (s.setRunState r).b = s.b := rfl
@[simp] theorem State.setRunState_c (s : State) (r : RunState) : (s.setRunState r).c = s.c := rfl
@[simp] theorem State.setRunState_d (s : State) (r : RunState) : (s.setRunState r).d = s.d := rfl
@[simp] theorem State.setRunState_e (s : State) (r : RunState) : (s.setRunState r).e = s.e := rfl
@[simp] theorem State.setRunState_h (s : State) (r : RunState) : (s.setRunState r).h = s.h := rfl
@[simp] theorem State.setRunState_l (s : State) (r : RunState) : (s.setRunState r).l = s.l := rfl
@[simp] theorem State.setRunState_sp (s : State) (r : RunState) : (s.setRunState r).sp = s.sp := rfl
@[simp] theorem State.setRunState_pc (s : State) (r : RunState) : (s.setRunState r).pc = s.pc := rfl
@[simp] theorem State.setRunState_ime (s : State) (r : RunState) : (s.setRunState r).ime = s.ime := rfl
@[simp] theorem State.setRunState_imePending (s : State) (r : RunState) : (s.setRunState r).imePending = s.imePending := rfl
@[simp] theorem State.setRunState_haltBug (s : State) (r : RunState) : (s.setRunState r).haltBug = s.haltBug := rfl
@[simp] theorem State.setRunState_runState (s : State) (r : RunState) : (s.setRunState r).runState = r := rfl
@[simp] theorem State.setRunState_lastError (s : State) (r : RunState) : (s.setRunState r).lastError = s.lastError := rfl
@[simp] theorem State.setRunState_irqNow (s : State) (r : RunState) : (s.setRunState r).irqNow = s.irqNow := rfl
@[simp] theorem State.setRunState_irqAck (s : State) (r : RunState) : (s.setRunState r).irqAck = s.irqAck := rfl
@[simp] theorem State.setRunState_inputs (s : State) (r : RunState) : (s.setRunState r).inputs = s.inputs := rfl
@[simp] theorem State.setRunState_boundaries (s : State) (r : RunState) : (s.setRunState r).boundaries = s.boundaries := rfl
@[simp] theorem State.setRunState_mem (s : State) (r : RunState) : (s.setRunState r).mem = s.mem := rfl

@[simp] theorem State.raiseError_params (s : State) (kind : ErrorKind) (byte : Byte) : (s.raiseError kind byte).params = s.params := rfl
@[simp] theorem State.raiseError_a (s : State) (kind : ErrorKind) (byte : Byte) : (s.raiseError kind byte).a = s.a := rfl
@[simp] theorem State.raiseError_f (s : State) (kind : ErrorKind) (byte : Byte) : (s.raiseError kind byte).f = s.f := rfl
@[simp] theorem State.raiseError_b (s : State) (kind : ErrorKind) (byte : Byte) : (s.raiseError kind byte).b = s.b := rfl
@[simp] theorem State.raiseError_c (s : State) (kind : ErrorKind) (byte : Byte) : (s.raiseError kind byte).c = s.c := rfl
@[simp] theorem State.raiseError_d (s : State) (kind : ErrorKind) (byte : Byte) : (s.raiseError kind byte).d = s.d := rfl
@[simp] theorem State.raiseError_e (s : State) (kind : ErrorKind) (byte : Byte) : (s.raiseError kind byte).e = s.e := rfl
@[simp] theorem State.raiseError_h (s : State) (kind : ErrorKind) (byte : Byte) : (s.raiseError kind byte).h = s.h := rfl
@[simp] theorem State.raiseError_l (s : State) (kind : ErrorKind) (byte : Byte) : (s.raiseError kind byte).l = s.l := rfl
@[simp] theorem State.raiseError_sp (s : State) (kind : ErrorKind) (byte : Byte) : (s.raiseError kind byte).sp = s.sp := rfl
@[simp] theorem State.raiseError_pc (s : State) (kind : ErrorKind) (byte : Byte) : (s.raiseError kind byte).pc = s.pc := rfl
@[simp] theorem State.raiseError_ime (s : State) (kind : ErrorKind) (byte : Byte) : (s.raiseError kind byte).ime = s.ime := rfl
@[simp] theorem State.raiseError_imePending (s : State) (kind : ErrorKind) (byte : Byte) : (s.raiseError kind byte).imePending = s.imePending := rfl
@[simp] theorem State.raiseError_haltBug (s : State) (kind : ErrorKind) (byte : Byte) : (s.raiseError kind byte).haltBug = s.haltBug := rfl
@[simp] theorem State.raiseError_runState (s : State) (kind : ErrorKind) (byte : Byte) : (s.raiseError kind byte).runState = .stopped := rfl
@[simp] theorem State.raiseError_lastError (s : State) (kind : ErrorKind) (byte : Byte) : (s.raiseError kind byte).lastError = some ⟨kind, byte, s.pc⟩ := rfl
@[simp] theorem State.raiseError_irqNow (s : State) (kind : ErrorKind) (byte : Byte) : (s.raiseError kind byte).irqNow = s.irqNow := rfl
@[simp] theorem State.raiseError_irqAck (s : State) (kind : ErrorKind) (byte : Byte) : (s.raiseError kind byte).irqAck = s.irqAck := rfl
@[simp] theorem State.raiseError_inputs (s : State) (kind : ErrorKind) (byte : Byte) : (s.raiseError kind byte).inputs = s.inputs := rfl
@[simp] theorem State.raiseError_boundaries (s : State) (kind : ErrorKind) (byte : Byte) : (s.raiseError kind byte).boundaries = s.boundaries := rfl
@[simp] theorem State.raiseError_mem (s : State) (kind : ErrorKind) (byte : Byte) : (s.raiseError kind byte).mem = s.mem := rfl

@[simp] theorem State.interruptEntry_params (s : State) (k : Fin 5) : (s.interruptEntry k).params = s.params := rfl
@[simp] theorem State.interruptEntry_a (s : State) (k : Fin 5) : (s.interruptEntry k).a = s.a := rfl
@[simp] theorem State.interruptEntry_f (s : State) (k : Fin 5) : (s.interruptEntry k).f = s.f := rfl
@[simp] theorem State.interruptEntry_b (s : State) (k : Fin 5) : (s.interruptEntry k).b = s.b := rfl
@[simp] theorem State.interruptEntry_c (s : State) (k : Fin 5) : (s.interruptEntry k).c = s.c := rfl
@[simp] theorem State.interruptEntry_d (s : State) (k : Fin 5) : (s.interruptEntry k).d = s.d := rfl
@[simp] theorem State.interruptEntry_e (s : State) (k : Fin 5) : (s.interruptEntry k).e = s.e := rfl
@[simp] theorem State.interruptEntry_h (s : State) (k : Fin 5) : (s.interruptEntry k).h = s.h := rfl
@[simp] theorem State.interruptEntry_l (s : State) (k : Fin 5) : (s.interruptEntry k).l = s.l := rfl
@[simp] theorem State.interruptEntry_sp (s : State) (k : Fin 5) : (s.interruptEntry k).sp = s.sp - 2 := rfl
@[simp] theorem State.interruptEntry_pc (s : State) (k : Fin 5) : (s.interruptEntry k).pc = interruptVector k := rfl
@[simp] theorem State.interruptEntry_ime (s : State) (k : Fin 5) : (s.interruptEntry k).ime = false := rfl
@[simp] theorem State.interruptEntry_imePending (s : State) (k : Fin 5) : (s.interruptEntry k).imePending = false := rfl
@[simp] theorem State.interruptEntry_haltBug (s : State) (k : Fin 5) : (s.interruptEntry k).haltBug = s.haltBug := rfl
@[simp] theorem State.interruptEntry_runState (s : State) (k : Fin 5) : (s.interruptEntry k).runState = s.runState := rfl
@[simp] theorem State.interruptEntry_lastError (s : State) (k : Fin 5) : (s.interruptEntry k).lastError = s.lastError := rfl
@[simp] theorem State.interruptEntry_irqNow (s : State) (k : Fin 5) : (s.interruptEntry k).irqNow = s.irqNow := rfl
@[simp] theorem State.interruptEntry_irqAck (s : State) (k : Fin 5) : (s.interruptEntry k).irqAck = some k := rfl
@[simp] theorem State.interruptEntry_inputs (s : State) (k : Fin 5) : (s.interruptEntry k).inputs = s.inputs := rfl
@[simp] theorem State.interruptEntry_boundaries (s : State) (k : Fin 5) : (s.interruptEntry k).boundaries = s.boundaries := rfl

@[simp] theorem State.interruptReturn_params (s : State) : (s.interruptReturn).params = s.params := rfl
@[simp] theorem State.interruptReturn_a (s : State) : (s.interruptReturn).a = s.a := rfl
@[simp] theorem State.interruptReturn_f (s : State) : (s.interruptReturn).f = s.f := rfl
@[simp] theorem State.interruptReturn_b (s : State) : (s.interruptReturn).b = s.b := rfl
@[simp] theorem State.interruptReturn_c (s : State) : (s.interruptReturn).c = s.c := rfl
@[simp] theorem State.interruptReturn_d (s : State) : (s.interruptReturn).d = s.d := rfl
@[simp] theorem State.interruptReturn_e (s : State) : (s.interruptReturn).e = s.e := rfl
@[simp] theorem State.interruptReturn_h (s : State) : (s.interruptReturn).h = s.h := rfl
@[simp] theorem State.interruptReturn_l (s : State) : (s.interruptReturn).l = s.l := rfl
@[simp] theorem State.interruptReturn_sp (s : State) : (s.interruptReturn).sp = s.sp + 2 := rfl
@[simp] theorem State.interruptReturn_pc (s : State) : (s.interruptReturn).pc = s.stackTop := rfl
@[simp] theorem State.interruptReturn_ime (s : State) : (s.interruptReturn).ime = true := rfl
@[simp] theorem State.interruptReturn_imePending (s : State) : (s.interruptReturn).imePending = false := rfl
@[simp] theorem State.interruptReturn_haltBug (s : State) : (s.interruptReturn).haltBug = s.haltBug := rfl
@[simp] theorem State.interruptReturn_runState (s : State) : (s.interruptReturn).runState = s.runState := rfl
@[simp] theorem State.interruptReturn_lastError (s : State) : (s.interruptReturn).lastError = s.lastError := rfl
@[simp] theorem State.interruptReturn_irqNow (s : State) : (s.interruptReturn).irqNow = s.irqNow := rfl
@[simp] theorem State.interruptReturn_irqAck (s : State) : (s.interruptReturn).irqAck = s.irqAck := rfl
@[simp] theorem State.interruptReturn_inputs (s : State) : (s.interruptReturn).inputs = s.inputs := rfl
@[simp] theorem State.interruptReturn_boundaries (s : State) : (s.interruptReturn).boundaries = s.boundaries := rfl
@[simp] theorem State.interruptReturn_mem (s : State) : (s.interruptReturn).mem = s.mem := rfl

@[simp] theorem State.setOperand_params (s : State) (o : Operand8) (v : Byte) : (s.setOperand o v).params = s.params := by rcases o with r | _ <;> [cases r; skip] <;> rfl
@[simp] theorem State.setOperand_f (s : State) (o : Operand8) (v : Byte) : (s.setOperand o v).f = s.f := by rcases o with r | _ <;> [cases r; skip] <;> rfl
@[simp] theorem State.setOperand_sp (s : State) (o : Operand8) (v : Byte) : (s.setOperand o v).sp = s.sp := by rcases o with r | _ <;> [cases r; skip] <;> rfl
@[simp] theorem State.setOperand_pc (s : State) (o : Operand8) (v : Byte) : (s.setOperand o v).pc = s.pc := by rcases o with r | _ <;> [cases r; skip] <;> rfl
@[simp] theorem State.setOperand_ime (s : State) (o : Operand8) (v : Byte) : (s.setOperand o v).ime = s.ime := by rcases o with r | _ <;> [cases r; skip] <;> rfl
@[simp] theorem State.setOperand_imePending (s : State) (o : Operand8) (v : Byte) : (s.setOperand o v).imePending = s.imePending := by rcases o with r | _ <;> [cases r; skip] <;> rfl
@[simp] theorem State.setOperand_haltBug (s : State) (o : Operand8) (v : Byte) : (s.setOperand o v).haltBug = s.haltBug := by rcases o with r | _ <;> [cases r; skip] <;> rfl
@[simp] theorem State.setOperand_runState (s : State) (o : Operand8) (v : Byte) : (s.setOperand o v).runState = s.runState := by rcases o with r | _ <;> [cases r; skip] <;> rfl
@[simp] theorem State.setOperand_lastError (s : State) (o : Operand8) (v : Byte) : (s.setOperand o v).lastError = s.lastError := by rcases o with r | _ <;> [cases r; skip] <;> rfl
@[simp] theorem State.setOperand_irqNow (s : State) (o : Operand8) (v : Byte) : (s.setOperand o v).irqNow = s.irqNow := by rcases o with r | _ <;> [cases r; skip] <;> rfl
@[simp] theorem State.setOperand_irqAck (s : State) (o : Operand8) (v : Byte) : (s.setOperand o v).irqAck = s.irqAck := by rcases o with r | _ <;> [cases r; skip] <;> rfl
@[simp] theorem State.setOperand_inputs (s : State) (o : Operand8) (v : Byte) : (s.setOperand o v).inputs = s.inputs := by rcases o with r | _ <;> [cases r; skip] <;> rfl
@[simp] theorem State.setOperand_boundaries (s : State) (o : Operand8) (v : Byte) : (s.setOperand o v).boundaries = s.boundaries := by rcases o with r | _ <;> [cases r; skip] <;> rfl

@[simp] theorem State.sample_params (s : State) : (s.sample).params = s.params := rfl
@[simp] theorem State.sample_a (s : State) : (s.sample).a = s.a := rfl
@[simp] theorem State.sample_f (s : State) : (s.sample).f = s.f := rfl
@[simp] theorem State.sample_b (s : State) : (s.sample).b = s.b := rfl
@[simp] theorem State.sample_c (s : State) : (s.sample).c = s.c := rfl
@[simp] theorem State.sample_d (s : State) : (s.sample).d = s.d := rfl
@[simp] theorem State.sample_e (s : State) : (s.sample).e = s.e := rfl
@[simp] theorem State.sample_h (s : State) : (s.sample).h = s.h := rfl
@[simp] theorem State.sample_l (s : State) : (s.sample).l = s.l := rfl
@[simp] theorem State.sample_sp (s : State) : (s.sample).sp = s.sp := rfl
@[simp] theorem State.sample_pc (s : State) : (s.sample).pc = s.pc := rfl
@[simp] theorem State.sample_ime (s : State) : (s.sample).ime = s.ime := rfl
@[simp] theorem State.sample_imePending (s : State) : (s.sample).imePending = s.imePending := rfl
@[simp] theorem State.sample_haltBug (s : State) : (s.sample).haltBug = s.haltBug := rfl
@[simp] theorem State.sample_runState (s : State) : (s.sample).runState = s.runState := rfl
@[simp] theorem State.sample_lastError (s : State) : (s.sample).lastError = s.lastError := rfl
@[simp] theorem State.sample_irqNow (s : State) : (s.sample).irqNow = s.nextDraw.irq := rfl
@[simp] theorem State.sample_irqAck (s : State) : (s.sample).irqAck = none := rfl
@[simp] theorem State.sample_inputs (s : State) : (s.sample).inputs = s.inputs.tail := rfl
@[simp] theorem State.sample_boundaries (s : State) : (s.sample).boundaries = s.boundaries + 1 := rfl
@[simp] theorem State.sample_mem (s : State) : (s.sample).mem = s.mem := rfl

@[simp] theorem State.withDraw_params (s : State) (draw : BoundaryDraw) : (s.withDraw draw).params = s.params := rfl
@[simp] theorem State.withDraw_a (s : State) (draw : BoundaryDraw) : (s.withDraw draw).a = s.a := rfl
@[simp] theorem State.withDraw_f (s : State) (draw : BoundaryDraw) : (s.withDraw draw).f = s.f := rfl
@[simp] theorem State.withDraw_b (s : State) (draw : BoundaryDraw) : (s.withDraw draw).b = s.b := rfl
@[simp] theorem State.withDraw_c (s : State) (draw : BoundaryDraw) : (s.withDraw draw).c = s.c := rfl
@[simp] theorem State.withDraw_d (s : State) (draw : BoundaryDraw) : (s.withDraw draw).d = s.d := rfl
@[simp] theorem State.withDraw_e (s : State) (draw : BoundaryDraw) : (s.withDraw draw).e = s.e := rfl
@[simp] theorem State.withDraw_h (s : State) (draw : BoundaryDraw) : (s.withDraw draw).h = s.h := rfl
@[simp] theorem State.withDraw_l (s : State) (draw : BoundaryDraw) : (s.withDraw draw).l = s.l := rfl
@[simp] theorem State.withDraw_sp (s : State) (draw : BoundaryDraw) : (s.withDraw draw).sp = s.sp := rfl
@[simp] theorem State.withDraw_pc (s : State) (draw : BoundaryDraw) : (s.withDraw draw).pc = s.pc := rfl
@[simp] theorem State.withDraw_ime (s : State) (draw : BoundaryDraw) : (s.withDraw draw).ime = s.ime := rfl
@[simp] theorem State.withDraw_imePending (s : State) (draw : BoundaryDraw) : (s.withDraw draw).imePending = s.imePending := rfl
@[simp] theorem State.withDraw_haltBug (s : State) (draw : BoundaryDraw) : (s.withDraw draw).haltBug = s.haltBug := rfl
@[simp] theorem State.withDraw_runState (s : State) (draw : BoundaryDraw) : (s.withDraw draw).runState = s.runState := rfl
@[simp] theorem State.withDraw_lastError (s : State) (draw : BoundaryDraw) : (s.withDraw draw).lastError = s.lastError := rfl
@[simp] theorem State.withDraw_irqNow (s : State) (draw : BoundaryDraw) : (s.withDraw draw).irqNow = s.irqNow := rfl
@[simp] theorem State.withDraw_irqAck (s : State) (draw : BoundaryDraw) : (s.withDraw draw).irqAck = s.irqAck := rfl
@[simp] theorem State.withDraw_boundaries (s : State) (draw : BoundaryDraw) : (s.withDraw draw).boundaries = s.boundaries := rfl
@[simp] theorem State.withDraw_mem (s : State) (draw : BoundaryDraw) : (s.withDraw draw).mem = s.mem := rfl
@[simp] theorem State.withDraw_inputs (s : State) (draw : BoundaryDraw) : (s.withDraw draw).inputs = draw :: s.inputs := rfl
@[simp] theorem State.withDraw_nextDraw (s : State) (draw : BoundaryDraw) : (s.withDraw draw).nextDraw = draw := rfl
/-- The boundary whose draw was fixed spends that draw and no other. -/
@[simp] theorem State.withDraw_sample (s : State) (draw : BoundaryDraw) : (s.withDraw draw).sample =
    { s with irqNow := draw.irq, irqAck := none, boundaries := s.boundaries + 1 } := rfl
@[simp] theorem State.withDraw_readByte (s : State) (draw : BoundaryDraw) (a : Word) : (s.withDraw draw).readByte a = s.readByte a := rfl
/-- Fixing a draw changes neither what is fetched nor where its immediates begin. -/
@[simp] theorem State.withDraw_decodeFetched (s : State) (draw : BoundaryDraw) : (s.withDraw draw).decodeFetched = s.decodeFetched := rfl

@[simp] theorem State.promoteIme_params (s : State) : (s.promoteIme).params = s.params := rfl
@[simp] theorem State.promoteIme_a (s : State) : (s.promoteIme).a = s.a := rfl
@[simp] theorem State.promoteIme_f (s : State) : (s.promoteIme).f = s.f := rfl
@[simp] theorem State.promoteIme_b (s : State) : (s.promoteIme).b = s.b := rfl
@[simp] theorem State.promoteIme_c (s : State) : (s.promoteIme).c = s.c := rfl
@[simp] theorem State.promoteIme_d (s : State) : (s.promoteIme).d = s.d := rfl
@[simp] theorem State.promoteIme_e (s : State) : (s.promoteIme).e = s.e := rfl
@[simp] theorem State.promoteIme_h (s : State) : (s.promoteIme).h = s.h := rfl
@[simp] theorem State.promoteIme_l (s : State) : (s.promoteIme).l = s.l := rfl
@[simp] theorem State.promoteIme_sp (s : State) : (s.promoteIme).sp = s.sp := rfl
@[simp] theorem State.promoteIme_pc (s : State) : (s.promoteIme).pc = s.pc := rfl
@[simp] theorem State.promoteIme_ime (s : State) : (s.promoteIme).ime = (s.ime || s.imePending) := rfl
@[simp] theorem State.promoteIme_imePending (s : State) : (s.promoteIme).imePending = false := rfl
@[simp] theorem State.promoteIme_haltBug (s : State) : (s.promoteIme).haltBug = s.haltBug := rfl
@[simp] theorem State.promoteIme_runState (s : State) : (s.promoteIme).runState = s.runState := rfl
@[simp] theorem State.promoteIme_lastError (s : State) : (s.promoteIme).lastError = s.lastError := rfl
@[simp] theorem State.promoteIme_irqNow (s : State) : (s.promoteIme).irqNow = s.irqNow := rfl
@[simp] theorem State.promoteIme_irqAck (s : State) : (s.promoteIme).irqAck = s.irqAck := rfl
@[simp] theorem State.promoteIme_inputs (s : State) : (s.promoteIme).inputs = s.inputs := rfl
@[simp] theorem State.promoteIme_boundaries (s : State) : (s.promoteIme).boundaries = s.boundaries := rfl
@[simp] theorem State.promoteIme_mem (s : State) : (s.promoteIme).mem = s.mem := rfl

@[simp] theorem State.enterHandler_params (s : State) : (s.enterHandler).params = s.params := rfl
@[simp] theorem State.enterHandler_a (s : State) : (s.enterHandler).a = s.a := rfl
@[simp] theorem State.enterHandler_f (s : State) : (s.enterHandler).f = s.f := rfl
@[simp] theorem State.enterHandler_b (s : State) : (s.enterHandler).b = s.b := rfl
@[simp] theorem State.enterHandler_c (s : State) : (s.enterHandler).c = s.c := rfl
@[simp] theorem State.enterHandler_d (s : State) : (s.enterHandler).d = s.d := rfl
@[simp] theorem State.enterHandler_e (s : State) : (s.enterHandler).e = s.e := rfl
@[simp] theorem State.enterHandler_h (s : State) : (s.enterHandler).h = s.h := rfl
@[simp] theorem State.enterHandler_l (s : State) : (s.enterHandler).l = s.l := rfl
@[simp] theorem State.enterHandler_sp (s : State) : (s.enterHandler).sp = s.sp := rfl
@[simp] theorem State.enterHandler_pc (s : State) : (s.enterHandler).pc = s.operandPc := rfl
@[simp] theorem State.enterHandler_ime (s : State) : (s.enterHandler).ime = (s.ime || s.imePending) := rfl
@[simp] theorem State.enterHandler_imePending (s : State) : (s.enterHandler).imePending = false := rfl
@[simp] theorem State.enterHandler_haltBug (s : State) : (s.enterHandler).haltBug = false := rfl
@[simp] theorem State.enterHandler_runState (s : State) : (s.enterHandler).runState = s.runState := rfl
@[simp] theorem State.enterHandler_lastError (s : State) : (s.enterHandler).lastError = s.lastError := rfl
@[simp] theorem State.enterHandler_irqNow (s : State) : (s.enterHandler).irqNow = s.irqNow := rfl
@[simp] theorem State.enterHandler_irqAck (s : State) : (s.enterHandler).irqAck = s.irqAck := rfl
@[simp] theorem State.enterHandler_inputs (s : State) : (s.enterHandler).inputs = s.inputs := rfl
@[simp] theorem State.enterHandler_boundaries (s : State) : (s.enterHandler).boundaries = s.boundaries := rfl
@[simp] theorem State.enterHandler_mem (s : State) : (s.enterHandler).mem = s.mem := rfl

/-! ## Views: register operands, HL, flags and memory bytes -/

@[simp] theorem State.writeByte_reg (s : State) (addr : Word) (v : Byte) (q : Reg8) : (s.writeByte addr v).reg q = s.reg q := by cases q <;> rfl
@[simp] theorem State.writeByte_hl (s : State) (addr : Word) (v : Byte) : (s.writeByte addr v).hl = s.hl := rfl
@[simp] theorem State.writeByte_zf (s : State) (addr : Word) (v : Byte) : (s.writeByte addr v).zf = s.zf := by simp [State.zf]
@[simp] theorem State.writeByte_nf (s : State) (addr : Word) (v : Byte) : (s.writeByte addr v).nf = s.nf := by simp [State.nf]
@[simp] theorem State.writeByte_hf (s : State) (addr : Word) (v : Byte) : (s.writeByte addr v).hf = s.hf := by simp [State.hf]
@[simp] theorem State.writeByte_cf (s : State) (addr : Word) (v : Byte) : (s.writeByte addr v).cf = s.cf := by simp [State.cf]
@[simp] theorem State.writeWord_reg (s : State) (addr v : Word) (q : Reg8) : (s.writeWord addr v).reg q = s.reg q := by cases q <;> rfl
@[simp] theorem State.writeWord_hl (s : State) (addr v : Word) : (s.writeWord addr v).hl = s.hl := rfl
@[simp] theorem State.writeWord_zf (s : State) (addr v : Word) : (s.writeWord addr v).zf = s.zf := by simp [State.zf]
@[simp] theorem State.writeWord_nf (s : State) (addr v : Word) : (s.writeWord addr v).nf = s.nf := by simp [State.nf]
@[simp] theorem State.writeWord_hf (s : State) (addr v : Word) : (s.writeWord addr v).hf = s.hf := by simp [State.hf]
@[simp] theorem State.writeWord_cf (s : State) (addr v : Word) : (s.writeWord addr v).cf = s.cf := by simp [State.cf]
@[simp] theorem State.setReg_zf (s : State) (r : Reg8) (v : Byte) : (s.setReg r v).zf = s.zf := by simp [State.zf]
@[simp] theorem State.setReg_nf (s : State) (r : Reg8) (v : Byte) : (s.setReg r v).nf = s.nf := by simp [State.nf]
@[simp] theorem State.setReg_hf (s : State) (r : Reg8) (v : Byte) : (s.setReg r v).hf = s.hf := by simp [State.hf]
@[simp] theorem State.setReg_cf (s : State) (r : Reg8) (v : Byte) : (s.setReg r v).cf = s.cf := by simp [State.cf]
@[simp] theorem State.setReg_readByte (s : State) (r : Reg8) (v : Byte) (a : Word) : (s.setReg r v).readByte a = s.readByte a := by simp [State.readByte]
@[simp] theorem State.setFlagReg_reg (s : State) (v : Byte) (q : Reg8) : (s.setFlagReg v).reg q = s.reg q := by cases q <;> rfl
@[simp] theorem State.setFlagReg_hl (s : State) (v : Byte) : (s.setFlagReg v).hl = s.hl := rfl
@[simp] theorem State.setFlagReg_readByte (s : State) (v : Byte) (a : Word) : (s.setFlagReg v).readByte a = s.readByte a := by simp [State.readByte]
@[simp] theorem State.setHl_zf (s : State) (v : Word) : (s.setHl v).zf = s.zf := by simp [State.zf]
@[simp] theorem State.setHl_nf (s : State) (v : Word) : (s.setHl v).nf = s.nf := by simp [State.nf]
@[simp] theorem State.setHl_hf (s : State) (v : Word) : (s.setHl v).hf = s.hf := by simp [State.hf]
@[simp] theorem State.setHl_cf (s : State) (v : Word) : (s.setHl v).cf = s.cf := by simp [State.cf]
@[simp] theorem State.setHl_readByte (s : State) (v : Word) (a : Word) : (s.setHl v).readByte a = s.readByte a := by simp [State.readByte]
@[simp] theorem State.setPair_zf (s : State) (p : Pair) (v : Word) : (s.setPair p v).zf = s.zf := by simp [State.zf]
@[simp] theorem State.setPair_nf (s : State) (p : Pair) (v : Word) : (s.setPair p v).nf = s.nf := by simp [State.nf]
@[simp] theorem State.setPair_hf (s : State) (p : Pair) (v : Word) : (s.setPair p v).hf = s.hf := by simp [State.hf]
@[simp] theorem State.setPair_cf (s : State) (p : Pair) (v : Word) : (s.setPair p v).cf = s.cf := by simp [State.cf]
@[simp] theorem State.setPair_readByte (s : State) (p : Pair) (v : Word) (a : Word) : (s.setPair p v).readByte a = s.readByte a := by simp [State.readByte]
@[simp] theorem State.setStackPair_readByte (s : State) (p : StackPair) (v : Word) (a : Word) : (s.setStackPair p v).readByte a = s.readByte a := by simp [State.readByte]
@[simp] theorem State.setFlags_reg (s : State) (z n hc cy : Bool) (q : Reg8) : (s.setFlags z n hc cy).reg q = s.reg q := by cases q <;> rfl
@[simp] theorem State.setFlags_hl (s : State) (z n hc cy : Bool) : (s.setFlags z n hc cy).hl = s.hl := rfl
@[simp] theorem State.setFlags_readByte (s : State) (z n hc cy : Bool) (a : Word) : (s.setFlags z n hc cy).readByte a = s.readByte a := by simp [State.readByte]
@[simp] theorem State.advance_reg (s : State) (n : Nat) (q : Reg8) : (s.advance n).reg q = s.reg q := by cases q <;> rfl
@[simp] theorem State.advance_hl (s : State) (n : Nat) : (s.advance n).hl = s.hl := rfl
@[simp] theorem State.advance_zf (s : State) (n : Nat) : (s.advance n).zf = s.zf := by simp [State.zf]
@[simp] theorem State.advance_nf (s : State) (n : Nat) : (s.advance n).nf = s.nf := by simp [State.nf]
@[simp] theorem State.advance_hf (s : State) (n : Nat) : (s.advance n).hf = s.hf := by simp [State.hf]
@[simp] theorem State.advance_cf (s : State) (n : Nat) : (s.advance n).cf = s.cf := by simp [State.cf]
@[simp] theorem State.advance_readByte (s : State) (n : Nat) (a : Word) : (s.advance n).readByte a = s.readByte a := by simp [State.readByte]
@[simp] theorem State.jump_reg (s : State) (target : Word) (q : Reg8) : (s.jump target).reg q = s.reg q := by cases q <;> rfl
@[simp] theorem State.jump_hl (s : State) (target : Word) : (s.jump target).hl = s.hl := rfl
@[simp] theorem State.jump_zf (s : State) (target : Word) : (s.jump target).zf = s.zf := by simp [State.zf]
@[simp] theorem State.jump_nf (s : State) (target : Word) : (s.jump target).nf = s.nf := by simp [State.nf]
@[simp] theorem State.jump_hf (s : State) (target : Word) : (s.jump target).hf = s.hf := by simp [State.hf]
@[simp] theorem State.jump_cf (s : State) (target : Word) : (s.jump target).cf = s.cf := by simp [State.cf]
@[simp] theorem State.jump_readByte (s : State) (target : Word) (a : Word) : (s.jump target).readByte a = s.readByte a := by simp [State.readByte]
@[simp] theorem State.push16_reg (s : State) (v : Word) (q : Reg8) : (s.push16 v).reg q = s.reg q := by cases q <;> rfl
@[simp] theorem State.push16_hl (s : State) (v : Word) : (s.push16 v).hl = s.hl := rfl
@[simp] theorem State.push16_zf (s : State) (v : Word) : (s.push16 v).zf = s.zf := by simp [State.zf]
@[simp] theorem State.push16_nf (s : State) (v : Word) : (s.push16 v).nf = s.nf := by simp [State.nf]
@[simp] theorem State.push16_hf (s : State) (v : Word) : (s.push16 v).hf = s.hf := by simp [State.hf]
@[simp] theorem State.push16_cf (s : State) (v : Word) : (s.push16 v).cf = s.cf := by simp [State.cf]
@[simp] theorem State.setRunState_reg (s : State) (r : RunState) (q : Reg8) : (s.setRunState r).reg q = s.reg q := by cases q <;> rfl
@[simp] theorem State.setRunState_hl (s : State) (r : RunState) : (s.setRunState r).hl = s.hl := rfl
@[simp] theorem State.setRunState_zf (s : State) (r : RunState) : (s.setRunState r).zf = s.zf := by simp [State.zf]
@[simp] theorem State.setRunState_nf (s : State) (r : RunState) : (s.setRunState r).nf = s.nf := by simp [State.nf]
@[simp] theorem State.setRunState_hf (s : State) (r : RunState) : (s.setRunState r).hf = s.hf := by simp [State.hf]
@[simp] theorem State.setRunState_cf (s : State) (r : RunState) : (s.setRunState r).cf = s.cf := by simp [State.cf]
@[simp] theorem State.setRunState_readByte (s : State) (r : RunState) (a : Word) : (s.setRunState r).readByte a = s.readByte a := by simp [State.readByte]
@[simp] theorem State.raiseError_reg (s : State) (kind : ErrorKind) (byte : Byte) (q : Reg8) : (s.raiseError kind byte).reg q = s.reg q := by cases q <;> rfl
@[simp] theorem State.raiseError_hl (s : State) (kind : ErrorKind) (byte : Byte) : (s.raiseError kind byte).hl = s.hl := rfl
@[simp] theorem State.raiseError_zf (s : State) (kind : ErrorKind) (byte : Byte) : (s.raiseError kind byte).zf = s.zf := by simp [State.zf]
@[simp] theorem State.raiseError_nf (s : State) (kind : ErrorKind) (byte : Byte) : (s.raiseError kind byte).nf = s.nf := by simp [State.nf]
@[simp] theorem State.raiseError_hf (s : State) (kind : ErrorKind) (byte : Byte) : (s.raiseError kind byte).hf = s.hf := by simp [State.hf]
@[simp] theorem State.raiseError_cf (s : State) (kind : ErrorKind) (byte : Byte) : (s.raiseError kind byte).cf = s.cf := by simp [State.cf]
@[simp] theorem State.raiseError_readByte (s : State) (kind : ErrorKind) (byte : Byte) (a : Word) : (s.raiseError kind byte).readByte a = s.readByte a := by simp [State.readByte]
@[simp] theorem State.interruptEntry_reg (s : State) (k : Fin 5) (q : Reg8) : (s.interruptEntry k).reg q = s.reg q := by cases q <;> rfl
@[simp] theorem State.interruptEntry_hl (s : State) (k : Fin 5) : (s.interruptEntry k).hl = s.hl := rfl
@[simp] theorem State.interruptEntry_zf (s : State) (k : Fin 5) : (s.interruptEntry k).zf = s.zf := by simp [State.zf]
@[simp] theorem State.interruptEntry_nf (s : State) (k : Fin 5) : (s.interruptEntry k).nf = s.nf := by simp [State.nf]
@[simp] theorem State.interruptEntry_hf (s : State) (k : Fin 5) : (s.interruptEntry k).hf = s.hf := by simp [State.hf]
@[simp] theorem State.interruptEntry_cf (s : State) (k : Fin 5) : (s.interruptEntry k).cf = s.cf := by simp [State.cf]
@[simp] theorem State.interruptReturn_reg (s : State) (q : Reg8) : (s.interruptReturn).reg q = s.reg q := by cases q <;> rfl
@[simp] theorem State.interruptReturn_hl (s : State) : (s.interruptReturn).hl = s.hl := rfl
@[simp] theorem State.interruptReturn_zf (s : State) : (s.interruptReturn).zf = s.zf := by simp [State.zf]
@[simp] theorem State.interruptReturn_nf (s : State) : (s.interruptReturn).nf = s.nf := by simp [State.nf]
@[simp] theorem State.interruptReturn_hf (s : State) : (s.interruptReturn).hf = s.hf := by simp [State.hf]
@[simp] theorem State.interruptReturn_cf (s : State) : (s.interruptReturn).cf = s.cf := by simp [State.cf]
@[simp] theorem State.interruptReturn_readByte (s : State) (a : Word) : (s.interruptReturn).readByte a = s.readByte a := by simp [State.readByte]
@[simp] theorem State.setOperand_zf (s : State) (o : Operand8) (v : Byte) : (s.setOperand o v).zf = s.zf := by simp [State.zf]
@[simp] theorem State.setOperand_nf (s : State) (o : Operand8) (v : Byte) : (s.setOperand o v).nf = s.nf := by simp [State.nf]
@[simp] theorem State.setOperand_hf (s : State) (o : Operand8) (v : Byte) : (s.setOperand o v).hf = s.hf := by simp [State.hf]
@[simp] theorem State.setOperand_cf (s : State) (o : Operand8) (v : Byte) : (s.setOperand o v).cf = s.cf := by simp [State.cf]
@[simp] theorem State.sample_reg (s : State) (q : Reg8) : (s.sample).reg q = s.reg q := by cases q <;> rfl
@[simp] theorem State.sample_hl (s : State) : (s.sample).hl = s.hl := rfl
@[simp] theorem State.sample_zf (s : State) : (s.sample).zf = s.zf := by simp [State.zf]
@[simp] theorem State.sample_nf (s : State) : (s.sample).nf = s.nf := by simp [State.nf]
@[simp] theorem State.sample_hf (s : State) : (s.sample).hf = s.hf := by simp [State.hf]
@[simp] theorem State.sample_cf (s : State) : (s.sample).cf = s.cf := by simp [State.cf]
@[simp] theorem State.sample_readByte (s : State) (a : Word) : (s.sample).readByte a = s.readByte a := by simp [State.readByte]
@[simp] theorem State.promoteIme_reg (s : State) (q : Reg8) : (s.promoteIme).reg q = s.reg q := by cases q <;> rfl
@[simp] theorem State.promoteIme_hl (s : State) : (s.promoteIme).hl = s.hl := rfl
@[simp] theorem State.promoteIme_zf (s : State) : (s.promoteIme).zf = s.zf := by simp [State.zf]
@[simp] theorem State.promoteIme_nf (s : State) : (s.promoteIme).nf = s.nf := by simp [State.nf]
@[simp] theorem State.promoteIme_hf (s : State) : (s.promoteIme).hf = s.hf := by simp [State.hf]
@[simp] theorem State.promoteIme_cf (s : State) : (s.promoteIme).cf = s.cf := by simp [State.cf]
@[simp] theorem State.promoteIme_readByte (s : State) (a : Word) : (s.promoteIme).readByte a = s.readByte a := by simp [State.readByte]
@[simp] theorem State.enterHandler_reg (s : State) (q : Reg8) : (s.enterHandler).reg q = s.reg q := by cases q <;> rfl
@[simp] theorem State.enterHandler_hl (s : State) : (s.enterHandler).hl = s.hl := rfl
@[simp] theorem State.enterHandler_zf (s : State) : (s.enterHandler).zf = s.zf := by simp [State.zf]
@[simp] theorem State.enterHandler_nf (s : State) : (s.enterHandler).nf = s.nf := by simp [State.nf]
@[simp] theorem State.enterHandler_hf (s : State) : (s.enterHandler).hf = s.hf := by simp [State.hf]
@[simp] theorem State.enterHandler_cf (s : State) : (s.enterHandler).cf = s.cf := by simp [State.cf]
@[simp] theorem State.enterHandler_readByte (s : State) (a : Word) : (s.enterHandler).readByte a = s.readByte a := by simp [State.readByte]

/-! ## A register after a write -/

theorem State.reg_setReg (s : State) (r q : Reg8) (v : Byte) : (s.setReg r v).reg q = if q = r then v else s.reg q := by
  cases r <;> cases q <;> rfl

@[simp] theorem State.reg_setReg_same (s : State) (r : Reg8) (v : Byte) : (s.setReg r v).reg r = v := by
  simp [State.reg_setReg]

@[simp] theorem joinBytes_hi8_lo8 (v : Word) : joinBytes (hi8 v) (lo8 v) = v := by
  apply BitVec.eq_of_toNat_eq
  simp only [joinBytes, hi8, lo8, BitVec.toNat_append, BitVec.extractLsb'_toNat, Nat.shiftRight_zero]
  rw [← Nat.shiftLeft_add_eq_or_of_lt (Nat.mod_lt _ (by decide))]
  have := v.isLt
  simp only [Nat.shiftRight_eq_div_pow, Nat.shiftLeft_eq]
  omega

@[simp] theorem hi8_joinBytes (a b : Byte) : hi8 (joinBytes a b) = a := by
  apply BitVec.eq_of_toNat_eq
  simp only [joinBytes, hi8, BitVec.toNat_append, BitVec.extractLsb'_toNat]
  rw [← Nat.shiftLeft_add_eq_or_of_lt b.isLt]
  have := a.isLt
  have := b.isLt
  simp only [Nat.shiftRight_eq_div_pow, Nat.shiftLeft_eq]
  omega

@[simp] theorem lo8_joinBytes (a b : Byte) : lo8 (joinBytes a b) = b := by
  apply BitVec.eq_of_toNat_eq
  simp only [joinBytes, lo8, BitVec.toNat_append, BitVec.extractLsb'_toNat, Nat.shiftRight_zero]
  rw [← Nat.shiftLeft_add_eq_or_of_lt b.isLt]
  have := a.isLt
  have := b.isLt
  simp only [Nat.shiftLeft_eq]
  omega

@[simp] theorem State.hl_setHl (s : State) (v : Word) : (s.setHl v).hl = v := by simp [State.hl]

@[simp] theorem State.pair_setPair (s : State) (p : Pair) (v : Word) : (s.setPair p v).pair p = v := by
  cases p <;> simp [State.setPair, State.pair, State.bc, State.de, State.hl]

@[simp] theorem wordOfBytes_bytes (o : WordOrder) (v : Word) : wordOfBytes o (firstByte o v) (secondByte o v) = v := by
  cases o <;> simp [wordOfBytes, firstByte, secondByte]

theorem firstByte_wordOfBytes (o : WordOrder) (b0 b1 : Byte) : firstByte o (wordOfBytes o b0 b1) = b0 := by
  cases o <;> simp [wordOfBytes, firstByte]

theorem secondByte_wordOfBytes (o : WordOrder) (b0 b1 : Byte) : secondByte o (wordOfBytes o b0 b1) = b1 := by
  cases o <;> simp [wordOfBytes, secondByte]

end Sys2Proof.Machine
end

