-- ==== Sys2Proof/Laws/Flags.lean ====
section
/-! SUPPORT. The byte F: where `flags(z, n, h, c)` puts each flag, and that bits 3 to 0 stay zero. -/

namespace Sys2Proof.Machine

theorem flagByte_zero (z n h c : Bool) : (flagByte z n h c).getLsbD 7 = z := by
  cases z <;> cases n <;> cases h <;> cases c <;> rfl

@[simp] theorem flagByte_zero_bit (z n h c : Bool) : (flagByte z n h c)[7] = z := flagByte_zero z n h c

theorem flagByte_subtract (z n h c : Bool) : (flagByte z n h c).getLsbD 6 = n := by
  cases z <;> cases n <;> cases h <;> cases c <;> rfl

@[simp] theorem flagByte_subtract_bit (z n h c : Bool) : (flagByte z n h c)[6] = n := flagByte_subtract z n h c

theorem flagByte_half (z n h c : Bool) : (flagByte z n h c).getLsbD 5 = h := by
  cases z <;> cases n <;> cases h <;> cases c <;> rfl

@[simp] theorem flagByte_half_bit (z n h c : Bool) : (flagByte z n h c)[5] = h := flagByte_half z n h c

theorem flagByte_carry (z n h c : Bool) : (flagByte z n h c).getLsbD 4 = c := by
  cases z <;> cases n <;> cases h <;> cases c <;> rfl

@[simp] theorem flagByte_carry_bit (z n h c : Bool) : (flagByte z n h c)[4] = c := flagByte_carry z n h c

@[simp] theorem flagByte_low (z n h c : Bool) : flagByte z n h c &&& 0x0F = 0 := by
  cases z <;> cases n <;> cases h <;> cases c <;> rfl

/-- A write of F leaves bits 3 to 0 zero (10_state.md R32). -/
@[simp] theorem maskedFlag_low (v : Byte) : v &&& 0xF0 &&& 0x0F = 0 := by
  rw [BitVec.and_assoc]
  exact BitVec.and_zero

/-- F reads as it is stored where bits 3 to 0 are zero. -/
theorem State.flagReg_eq {s : State} (h : s.f &&& 0x0F = 0) : s.flagReg = s.f := by
  have key : (s.f &&& 0xF0) ||| (s.f &&& 0x0F) = s.f := by
    rw [← BitVec.and_or_distrib_left]
    exact BitVec.and_allOnes
  rw [h] at key
  simpa [State.flagReg] using key

@[simp] theorem State.setFlags_zf (s : State) (z n h c : Bool) : (s.setFlags z n h c).zf = z := flagByte_zero z n h c

@[simp] theorem State.setFlags_nf (s : State) (z n h c : Bool) : (s.setFlags z n h c).nf = n := flagByte_subtract z n h c

@[simp] theorem State.setFlags_hf (s : State) (z n h c : Bool) : (s.setFlags z n h c).hf = h := flagByte_half z n h c

@[simp] theorem State.setFlags_cf (s : State) (z n h c : Bool) : (s.setFlags z n h c).cf = c := flagByte_carry z n h c

end Sys2Proof.Machine
end

