-- ==== Sys2Proof/Laws/Forms.lean ====
section
/-! SUPPORT. The instructions by form. `exec_<form>` says what the rows of a form do, for every operand at once; `Instr.byForm` proves
a statement about every instruction from one case per form instead of one per row. -/

namespace Sys2Proof.Machine

/-! ## The meaning of a whole form -/

@[simp] theorem exec_ldRegReg (dst src : Reg8) (s : State) : exec (Instr.ldRegReg dst src) s = .next (ldRegReg dst src s) := by
  cases dst <;> cases src <;> rfl

@[simp] theorem exec_ldRegImm (dst : Reg8) (n : Byte) (s : State) : exec (Instr.ldRegImm dst n) s = .next (ldRegImm dst n s) := by
  cases dst <;> rfl

@[simp] theorem exec_ldRegAtHl (dst : Reg8) (s : State) : exec (Instr.ldRegAtHl dst) s = .next (ldRegAtHl dst s) := by
  cases dst <;> rfl

@[simp] theorem exec_ldAtHlReg (r : Reg8) (s : State) : exec (Instr.ldAtHlReg r) s = .next (ldAtHlReg r s) := by
  cases r <;> rfl

@[simp] theorem exec_ldPairImm (p : Pair) (nn : Word) (s : State) : exec (Instr.ldPairImm p nn) s = .next (ldPairImm p nn s) := by
  cases p <;> rfl

@[simp] theorem exec_incPair (p : Pair) (s : State) : exec (Instr.incPair p) s = .next (incPair p s) := by
  cases p <;> rfl

@[simp] theorem exec_decPair (p : Pair) (s : State) : exec (Instr.decPair p) s = .next (decPair p s) := by
  cases p <;> rfl

@[simp] theorem exec_addHlPair (p : Pair) (s : State) : exec (Instr.addHlPair p) s = .next (addHl p s) := by
  cases p <;> rfl

@[simp] theorem exec_push (p : StackPair) (s : State) : exec (Instr.push p) s = .next (pushPair p s) := by
  cases p <;> rfl

@[simp] theorem exec_pop (p : StackPair) (s : State) : exec (Instr.pop p) s = .next (popPair p s) := by
  cases p <;> rfl

@[simp] theorem exec_alu (op : AluOp) (o : Operand8) (s : State) : exec (Instr.alu op o) s = .next (aluApply op (s.operand o) s) := by
  cases op <;> rcases o with ⟨⟨⟩⟩ | _ <;> rfl

@[simp] theorem exec_aluImm (op : AluOp) (n : Byte) (s : State) : exec (Instr.aluImm op n) s = .next (aluApply op n (s.advance 1)) := by
  cases op <;> rfl

@[simp] theorem exec_incOp (o : Operand8) (s : State) : exec (Instr.incOp o) s = .next (incOperand o s) := by
  rcases o with ⟨⟨⟩⟩ | _ <;> rfl

@[simp] theorem exec_decOp (o : Operand8) (s : State) : exec (Instr.decOp o) s = .next (decOperand o s) := by
  rcases o with ⟨⟨⟩⟩ | _ <;> rfl

@[simp] theorem exec_jrCond (cc : Cond) (e : Byte) (s : State) : exec (Instr.jrCond cc e) s = .next (jumpRelIf cc e s) := by
  cases cc <;> rfl

@[simp] theorem exec_jpCond (cc : Cond) (nn : Word) (s : State) : exec (Instr.jpCond cc nn) s = .next (jumpAbsIf cc nn s) := by
  cases cc <;> rfl

@[simp] theorem exec_callCond (cc : Cond) (nn : Word) (s : State) : exec (Instr.callCond cc nn) s = .next (callAbsIf cc nn s) := by
  cases cc <;> rfl

@[simp] theorem exec_retCond (cc : Cond) (s : State) : exec (Instr.retCond cc) s = .next (returnSubIf cc s) := by
  cases cc <;> rfl

@[simp] theorem exec_rst (t : Oct) (s : State) : exec (Instr.rst t) s = .next (restart t s) := by
  cases t <;> rfl

@[simp] theorem exec_rot (op : RotOp) (o : Operand8) (s : State) : exec (Instr.rot op o) s = .next (rotOperand op o s) := by
  cases op <;> rcases o with ⟨⟨⟩⟩ | _ <;> rfl

@[simp] theorem exec_bit (b : Oct) (o : Operand8) (s : State) : exec (Instr.bit b o) s = .next (bitOperand b o s) := by
  cases b <;> rcases o with ⟨⟨⟩⟩ | _ <;> rfl

@[simp] theorem exec_res (b : Oct) (o : Operand8) (s : State) : exec (Instr.res b o) s = .next (resOperand b o s) := by
  cases b <;> rcases o with ⟨⟨⟩⟩ | _ <;> rfl

@[simp] theorem exec_set (b : Oct) (o : Operand8) (s : State) : exec (Instr.set b o) s = .next (setOperandBit b o s) := by
  cases b <;> rcases o with ⟨⟨⟩⟩ | _ <;> rfl

@[simp] theorem exec_nop (s : State) : exec .nop s = .next (s) := rfl

@[simp] theorem exec_ldAtBcA (s : State) : exec .ldAtBcA s = .next (storeA s.bc s) := rfl

@[simp] theorem exec_rlca (s : State) : exec .rlca s = .next (accRotate (rlcaResult s.a) s) := rfl

@[simp] theorem exec_ldAtA16Sp (nn : Word) (s : State) : exec (.ldAtA16Sp nn) s = .next ((s.advance 2).writeWord nn s.sp) := rfl

@[simp] theorem exec_ldAAtBc (s : State) : exec .ldAAtBc s = .next (loadA s.bc s) := rfl

@[simp] theorem exec_rrca (s : State) : exec .rrca s = .next (accRotate (rrcaResult s.a) s) := rfl

@[simp] theorem exec_stop (ignored : Byte) (s : State) : exec (.stop ignored) s = .next (stopCore s) := rfl

@[simp] theorem exec_ldAtDeA (s : State) : exec .ldAtDeA s = .next (storeA s.de s) := rfl

@[simp] theorem exec_rla (s : State) : exec .rla s = .next (accRotate (rlaResult s.a s.cf) s) := rfl

@[simp] theorem exec_jrE8 (e : Byte) (s : State) : exec (.jrE8 e) s = .next (jumpRel e s) := rfl

@[simp] theorem exec_ldAAtDe (s : State) : exec .ldAAtDe s = .next (loadA s.de s) := rfl

@[simp] theorem exec_rra (s : State) : exec .rra s = .next (accRotate (rraResult s.a s.cf) s) := rfl

@[simp] theorem exec_ldAtHlIncA (s : State) : exec .ldAtHlIncA s = .next ((storeA s.hl s).setHl (s.hl + 1)) := rfl

@[simp] theorem exec_daa (s : State) : exec .daa s = .next (decimalAdjust s) := rfl

@[simp] theorem exec_ldAAtHlInc (s : State) : exec .ldAAtHlInc s = .next ((loadA s.hl s).setHl (s.hl + 1)) := rfl

@[simp] theorem exec_cpl (s : State) : exec .cpl s = .next ({ s with a := ~~~s.a }.setFlags s.zf true true s.cf) := rfl

@[simp] theorem exec_ldAtHlDecA (s : State) : exec .ldAtHlDecA s = .next ((storeA s.hl s).setHl (s.hl - 1)) := rfl

@[simp] theorem exec_ldAtHlD8 (n : Byte) (s : State) : exec (.ldAtHlD8 n) s = .next ((s.advance 1).writeByte s.hl n) := rfl

@[simp] theorem exec_scf (s : State) : exec .scf s = .next (s.setFlags s.zf false false true) := rfl

@[simp] theorem exec_ldAAtHlDec (s : State) : exec .ldAAtHlDec s = .next ((loadA s.hl s).setHl (s.hl - 1)) := rfl

@[simp] theorem exec_ccf (s : State) : exec .ccf s = .next (s.setFlags s.zf false false (!s.cf)) := rfl

@[simp] theorem exec_halt (s : State) : exec .halt s = .next (haltCore s) := rfl

@[simp] theorem exec_jpA16 (nn : Word) (s : State) : exec (.jpA16 nn) s = .next (jumpAbs nn s) := rfl

@[simp] theorem exec_ret (s : State) : exec .ret s = .next (returnSub s) := rfl

@[simp] theorem exec_prefixCb (s : State) : exec .prefixCb s = .next (cbRow s.fetchImm8.1 s) := rfl

@[simp] theorem exec_callA16 (nn : Word) (s : State) : exec (.callA16 nn) s = .next (callAbs nn s) := rfl

@[simp] theorem exec_reti (s : State) : exec .reti s = .next (s.interruptReturn) := rfl

@[simp] theorem exec_ldhAtA8A (n : Byte) (s : State) : exec (.ldhAtA8A n) s = .next (storeA (highPage n) (s.advance 1)) := rfl

@[simp] theorem exec_ldhAtCA (s : State) : exec .ldhAtCA s = .next (storeA (highPage s.c) s) := rfl

@[simp] theorem exec_addSpE8 (e : Byte) (s : State) : exec (.addSpE8 e) s = .next (addSpDisplacement e s) := rfl

@[simp] theorem exec_jpHl (s : State) : exec .jpHl s = .next (s.jump s.hl) := rfl

@[simp] theorem exec_ldAtA16A (nn : Word) (s : State) : exec (.ldAtA16A nn) s = .next (storeA nn (s.advance 2)) := rfl

@[simp] theorem exec_ldhAAtA8 (n : Byte) (s : State) : exec (.ldhAAtA8 n) s = .next (loadA (highPage n) (s.advance 1)) := rfl

@[simp] theorem exec_ldhAAtC (s : State) : exec .ldhAAtC s = .next (loadA (highPage s.c) s) := rfl

@[simp] theorem exec_di (s : State) : exec .di s = .next ({ s with ime := false, imePending := false }) := rfl

@[simp] theorem exec_ldHlSpE8 (e : Byte) (s : State) : exec (.ldHlSpE8 e) s = .next (ldHlSpDisplacement e s) := rfl

@[simp] theorem exec_ldSpHl (s : State) : exec .ldSpHl s = .next ({ s with sp := s.hl }) := rfl

@[simp] theorem exec_ldAAtA16 (nn : Word) (s : State) : exec (.ldAAtA16 nn) s = .next (loadA nn (s.advance 2)) := rfl

@[simp] theorem exec_ei (s : State) : exec .ei s = .next ({ s with imePending := true }) := rfl

/-- The opcode byte of a hole (30_encoding.md R132). -/
def holeByte (i : Instr) : Byte := (encode .be i).headD 0

theorem exec_hole {i : Instr} (h : i.isHole = true) (s : State) : exec i s = .next (hole (holeByte i) s) := by
  cases i <;> first | rfl | exact absurd h (by simp [Instr.isHole])

/-! ## Holes and lengths by form -/

@[simp] theorem isHole_ldRegReg (dst src : Reg8) : (Instr.ldRegReg dst src).isHole = false := by
  cases dst <;> cases src <;> rfl

@[simp] theorem isHole_ldRegImm (dst : Reg8) (n : Byte) : (Instr.ldRegImm dst n).isHole = false := by
  cases dst <;> rfl

@[simp] theorem isHole_ldRegAtHl (dst : Reg8) : (Instr.ldRegAtHl dst).isHole = false := by
  cases dst <;> rfl

@[simp] theorem isHole_ldAtHlReg (r : Reg8) : (Instr.ldAtHlReg r).isHole = false := by
  cases r <;> rfl

@[simp] theorem isHole_ldPairImm (p : Pair) (nn : Word) : (Instr.ldPairImm p nn).isHole = false := by
  cases p <;> rfl

@[simp] theorem isHole_incPair (p : Pair) : (Instr.incPair p).isHole = false := by
  cases p <;> rfl

@[simp] theorem isHole_decPair (p : Pair) : (Instr.decPair p).isHole = false := by
  cases p <;> rfl

@[simp] theorem isHole_addHlPair (p : Pair) : (Instr.addHlPair p).isHole = false := by
  cases p <;> rfl

@[simp] theorem isHole_push (p : StackPair) : (Instr.push p).isHole = false := by
  cases p <;> rfl

@[simp] theorem isHole_pop (p : StackPair) : (Instr.pop p).isHole = false := by
  cases p <;> rfl

@[simp] theorem isHole_alu (op : AluOp) (o : Operand8) : (Instr.alu op o).isHole = false := by
  cases op <;> rcases o with ⟨⟨⟩⟩ | _ <;> rfl

@[simp] theorem isHole_aluImm (op : AluOp) (n : Byte) : (Instr.aluImm op n).isHole = false := by
  cases op <;> rfl

@[simp] theorem isHole_incOp (o : Operand8) : (Instr.incOp o).isHole = false := by
  rcases o with ⟨⟨⟩⟩ | _ <;> rfl

@[simp] theorem isHole_decOp (o : Operand8) : (Instr.decOp o).isHole = false := by
  rcases o with ⟨⟨⟩⟩ | _ <;> rfl

@[simp] theorem isHole_jrCond (cc : Cond) (e : Byte) : (Instr.jrCond cc e).isHole = false := by
  cases cc <;> rfl

@[simp] theorem isHole_jpCond (cc : Cond) (nn : Word) : (Instr.jpCond cc nn).isHole = false := by
  cases cc <;> rfl

@[simp] theorem isHole_callCond (cc : Cond) (nn : Word) : (Instr.callCond cc nn).isHole = false := by
  cases cc <;> rfl

@[simp] theorem isHole_retCond (cc : Cond) : (Instr.retCond cc).isHole = false := by
  cases cc <;> rfl

@[simp] theorem isHole_rst (t : Oct) : (Instr.rst t).isHole = false := by
  cases t <;> rfl

@[simp] theorem isHole_rot (op : RotOp) (o : Operand8) : (Instr.rot op o).isHole = false := by
  cases op <;> rcases o with ⟨⟨⟩⟩ | _ <;> rfl

@[simp] theorem isHole_bit (b : Oct) (o : Operand8) : (Instr.bit b o).isHole = false := by
  cases b <;> rcases o with ⟨⟨⟩⟩ | _ <;> rfl

@[simp] theorem isHole_res (b : Oct) (o : Operand8) : (Instr.res b o).isHole = false := by
  cases b <;> rcases o with ⟨⟨⟩⟩ | _ <;> rfl

@[simp] theorem isHole_set (b : Oct) (o : Operand8) : (Instr.set b o).isHole = false := by
  cases b <;> rcases o with ⟨⟨⟩⟩ | _ <;> rfl

@[simp] theorem length_ldRegReg (dst src : Reg8) : (Instr.ldRegReg dst src).length = 1 := by
  cases dst <;> cases src <;> rfl

@[simp] theorem length_ldRegImm (dst : Reg8) (n : Byte) : (Instr.ldRegImm dst n).length = 2 := by
  cases dst <;> rfl

@[simp] theorem length_ldRegAtHl (dst : Reg8) : (Instr.ldRegAtHl dst).length = 1 := by
  cases dst <;> rfl

@[simp] theorem length_ldAtHlReg (r : Reg8) : (Instr.ldAtHlReg r).length = 1 := by
  cases r <;> rfl

@[simp] theorem length_ldPairImm (p : Pair) (nn : Word) : (Instr.ldPairImm p nn).length = 3 := by
  cases p <;> rfl

@[simp] theorem length_incPair (p : Pair) : (Instr.incPair p).length = 1 := by
  cases p <;> rfl

@[simp] theorem length_decPair (p : Pair) : (Instr.decPair p).length = 1 := by
  cases p <;> rfl

@[simp] theorem length_addHlPair (p : Pair) : (Instr.addHlPair p).length = 1 := by
  cases p <;> rfl

@[simp] theorem length_push (p : StackPair) : (Instr.push p).length = 1 := by
  cases p <;> rfl

@[simp] theorem length_pop (p : StackPair) : (Instr.pop p).length = 1 := by
  cases p <;> rfl

@[simp] theorem length_alu (op : AluOp) (o : Operand8) : (Instr.alu op o).length = 1 := by
  cases op <;> rcases o with ⟨⟨⟩⟩ | _ <;> rfl

@[simp] theorem length_aluImm (op : AluOp) (n : Byte) : (Instr.aluImm op n).length = 2 := by
  cases op <;> rfl

@[simp] theorem length_incOp (o : Operand8) : (Instr.incOp o).length = 1 := by
  rcases o with ⟨⟨⟩⟩ | _ <;> rfl

@[simp] theorem length_decOp (o : Operand8) : (Instr.decOp o).length = 1 := by
  rcases o with ⟨⟨⟩⟩ | _ <;> rfl

@[simp] theorem length_jrCond (cc : Cond) (e : Byte) : (Instr.jrCond cc e).length = 2 := by
  cases cc <;> rfl

@[simp] theorem length_jpCond (cc : Cond) (nn : Word) : (Instr.jpCond cc nn).length = 3 := by
  cases cc <;> rfl

@[simp] theorem length_callCond (cc : Cond) (nn : Word) : (Instr.callCond cc nn).length = 3 := by
  cases cc <;> rfl

@[simp] theorem length_retCond (cc : Cond) : (Instr.retCond cc).length = 1 := by
  cases cc <;> rfl

@[simp] theorem length_rst (t : Oct) : (Instr.rst t).length = 1 := by
  cases t <;> rfl

@[simp] theorem length_rot (op : RotOp) (o : Operand8) : (Instr.rot op o).length = 2 := by
  cases op <;> rcases o with ⟨⟨⟩⟩ | _ <;> rfl

@[simp] theorem length_bit (b : Oct) (o : Operand8) : (Instr.bit b o).length = 2 := by
  cases b <;> rcases o with ⟨⟨⟩⟩ | _ <;> rfl

@[simp] theorem length_res (b : Oct) (o : Operand8) : (Instr.res b o).length = 2 := by
  cases b <;> rcases o with ⟨⟨⟩⟩ | _ <;> rfl

@[simp] theorem length_set (b : Oct) (o : Operand8) : (Instr.set b o).length = 2 := by
  cases b <;> rcases o with ⟨⟨⟩⟩ | _ <;> rfl

/-- The holes are the eleven rows of 30_encoding.md R132. -/
theorem isHole_cases {i : Instr} (h : i.isHole = true) :
    i = .holeD3 ∨ i = .holeDB ∨ i = .holeDD ∨ i = .holeE3 ∨ i = .holeE4 ∨ i = .holeEB ∨ i = .holeEC ∨ i = .holeED ∨ i = .holeF4 ∨
      i = .holeFC ∨ i = .holeFD := by
  unfold Instr.isHole at h
  split at h <;> simp at h ⊢

/-! ## One case per form -/

/-- A statement holds of every instruction if it holds of every form. -/
theorem Instr.byForm {P : Instr → Prop}
    (ldRegReg : ∀ dst src : Reg8, P (Instr.ldRegReg dst src))
    (ldRegImm : ∀ (dst : Reg8) (n : Byte), P (Instr.ldRegImm dst n))
    (ldRegAtHl : ∀ dst : Reg8, P (Instr.ldRegAtHl dst))
    (ldAtHlReg : ∀ r : Reg8, P (Instr.ldAtHlReg r))
    (ldPairImm : ∀ (p : Pair) (nn : Word), P (Instr.ldPairImm p nn))
    (incPair : ∀ p : Pair, P (Instr.incPair p))
    (decPair : ∀ p : Pair, P (Instr.decPair p))
    (addHlPair : ∀ p : Pair, P (Instr.addHlPair p))
    (push : ∀ p : StackPair, P (Instr.push p))
    (pop : ∀ p : StackPair, P (Instr.pop p))
    (alu : ∀ (op : AluOp) (o : Operand8), P (Instr.alu op o))
    (aluImm : ∀ (op : AluOp) (n : Byte), P (Instr.aluImm op n))
    (incOp : ∀ o : Operand8, P (Instr.incOp o))
    (decOp : ∀ o : Operand8, P (Instr.decOp o))
    (jrCond : ∀ (cc : Cond) (e : Byte), P (Instr.jrCond cc e))
    (jpCond : ∀ (cc : Cond) (nn : Word), P (Instr.jpCond cc nn))
    (callCond : ∀ (cc : Cond) (nn : Word), P (Instr.callCond cc nn))
    (retCond : ∀ cc : Cond, P (Instr.retCond cc))
    (rst : ∀ t : Oct, P (Instr.rst t))
    (rot : ∀ (op : RotOp) (o : Operand8), P (Instr.rot op o))
    (bit : ∀ (b : Oct) (o : Operand8), P (Instr.bit b o))
    (res : ∀ (b : Oct) (o : Operand8), P (Instr.res b o))
    (set : ∀ (b : Oct) (o : Operand8), P (Instr.set b o))
    (nop : P .nop)
    (ldAtBcA : P .ldAtBcA)
    (rlca : P .rlca)
    (ldAtA16Sp : ∀ (nn : Word), P (.ldAtA16Sp nn))
    (ldAAtBc : P .ldAAtBc)
    (rrca : P .rrca)
    (stop : ∀ (ignored : Byte), P (.stop ignored))
    (ldAtDeA : P .ldAtDeA)
    (rla : P .rla)
    (jrE8 : ∀ (e : Byte), P (.jrE8 e))
    (ldAAtDe : P .ldAAtDe)
    (rra : P .rra)
    (ldAtHlIncA : P .ldAtHlIncA)
    (daa : P .daa)
    (ldAAtHlInc : P .ldAAtHlInc)
    (cpl : P .cpl)
    (ldAtHlDecA : P .ldAtHlDecA)
    (ldAtHlD8 : ∀ (n : Byte), P (.ldAtHlD8 n))
    (scf : P .scf)
    (ldAAtHlDec : P .ldAAtHlDec)
    (ccf : P .ccf)
    (halt : P .halt)
    (jpA16 : ∀ (nn : Word), P (.jpA16 nn))
    (ret : P .ret)
    (prefixCb : P .prefixCb)
    (callA16 : ∀ (nn : Word), P (.callA16 nn))
    (reti : P .reti)
    (ldhAtA8A : ∀ (n : Byte), P (.ldhAtA8A n))
    (ldhAtCA : P .ldhAtCA)
    (addSpE8 : ∀ (e : Byte), P (.addSpE8 e))
    (jpHl : P .jpHl)
    (ldAtA16A : ∀ (nn : Word), P (.ldAtA16A nn))
    (ldhAAtA8 : ∀ (n : Byte), P (.ldhAAtA8 n))
    (ldhAAtC : P .ldhAAtC)
    (di : P .di)
    (ldHlSpE8 : ∀ (e : Byte), P (.ldHlSpE8 e))
    (ldSpHl : P .ldSpHl)
    (ldAAtA16 : ∀ (nn : Word), P (.ldAAtA16 nn))
    (ei : P .ei)
    (hole : ∀ i : Instr, i.isHole = true → P i) (i : Instr) : P i :=
  match i with
  | .nop => nop | .ldBcD16 nn => ldPairImm .bc nn | .ldAtBcA => ldAtBcA | .incBc => incPair .bc
  | .incB => incOp (.reg .b) | .decB => decOp (.reg .b) | .ldBD8 n => ldRegImm .b n | .rlca => rlca
  | .ldAtA16Sp nn => ldAtA16Sp nn | .addHlBc => addHlPair .bc | .ldAAtBc => ldAAtBc | .decBc => decPair .bc
  | .incC => incOp (.reg .c) | .decC => decOp (.reg .c) | .ldCD8 n => ldRegImm .c n | .rrca => rrca
  | .stop ignored => stop ignored | .ldDeD16 nn => ldPairImm .de nn | .ldAtDeA => ldAtDeA
  | .incDe => incPair .de | .incD => incOp (.reg .d) | .decD => decOp (.reg .d) | .ldDD8 n => ldRegImm .d n
  | .rla => rla | .jrE8 e => jrE8 e | .addHlDe => addHlPair .de | .ldAAtDe => ldAAtDe | .decDe => decPair .de
  | .incE => incOp (.reg .e) | .decE => decOp (.reg .e) | .ldED8 n => ldRegImm .e n | .rra => rra
  | .jrNzE8 e => jrCond .nz e | .ldHlD16 nn => ldPairImm .hl nn | .ldAtHlIncA => ldAtHlIncA
  | .incHl => incPair .hl | .incH => incOp (.reg .h) | .decH => decOp (.reg .h) | .ldHD8 n => ldRegImm .h n
  | .daa => daa | .jrZE8 e => jrCond .z e | .addHlHl => addHlPair .hl | .ldAAtHlInc => ldAAtHlInc
  | .decHl => decPair .hl | .incL => incOp (.reg .l) | .decL => decOp (.reg .l) | .ldLD8 n => ldRegImm .l n
  | .cpl => cpl | .jrNcE8 e => jrCond .nc e | .ldSpD16 nn => ldPairImm .sp nn | .ldAtHlDecA => ldAtHlDecA
  | .incSp => incPair .sp | .incAtHl => incOp .atHl | .decAtHl => decOp .atHl | .ldAtHlD8 n => ldAtHlD8 n
  | .scf => scf | .jrCE8 e => jrCond .c e | .addHlSp => addHlPair .sp | .ldAAtHlDec => ldAAtHlDec
  | .decSp => decPair .sp | .incA => incOp (.reg .a) | .decA => decOp (.reg .a) | .ldAD8 n => ldRegImm .a n
  | .ccf => ccf | .ldBB => ldRegReg .b .b | .ldBC => ldRegReg .b .c | .ldBD => ldRegReg .b .d
  | .ldBE => ldRegReg .b .e | .ldBH => ldRegReg .b .h | .ldBL => ldRegReg .b .l | .ldBAtHl => ldRegAtHl .b
  | .ldBA => ldRegReg .b .a | .ldCB => ldRegReg .c .b | .ldCC => ldRegReg .c .c | .ldCD => ldRegReg .c .d
  | .ldCE => ldRegReg .c .e | .ldCH => ldRegReg .c .h | .ldCL => ldRegReg .c .l | .ldCAtHl => ldRegAtHl .c
  | .ldCA => ldRegReg .c .a | .ldDB => ldRegReg .d .b | .ldDC => ldRegReg .d .c | .ldDD => ldRegReg .d .d
  | .ldDE => ldRegReg .d .e | .ldDH => ldRegReg .d .h | .ldDL => ldRegReg .d .l | .ldDAtHl => ldRegAtHl .d
  | .ldDA => ldRegReg .d .a | .ldEB => ldRegReg .e .b | .ldEC => ldRegReg .e .c | .ldED => ldRegReg .e .d
  | .ldEE => ldRegReg .e .e | .ldEH => ldRegReg .e .h | .ldEL => ldRegReg .e .l | .ldEAtHl => ldRegAtHl .e
  | .ldEA => ldRegReg .e .a | .ldHB => ldRegReg .h .b | .ldHC => ldRegReg .h .c | .ldHD => ldRegReg .h .d
  | .ldHE => ldRegReg .h .e | .ldHH => ldRegReg .h .h | .ldHL => ldRegReg .h .l | .ldHAtHl => ldRegAtHl .h
  | .ldHA => ldRegReg .h .a | .ldLB => ldRegReg .l .b | .ldLC => ldRegReg .l .c | .ldLD => ldRegReg .l .d
  | .ldLE => ldRegReg .l .e | .ldLH => ldRegReg .l .h | .ldLL => ldRegReg .l .l | .ldLAtHl => ldRegAtHl .l
  | .ldLA => ldRegReg .l .a | .ldAtHlB => ldAtHlReg .b | .ldAtHlC => ldAtHlReg .c | .ldAtHlD => ldAtHlReg .d
  | .ldAtHlE => ldAtHlReg .e | .ldAtHlH => ldAtHlReg .h | .ldAtHlL => ldAtHlReg .l | .halt => halt
  | .ldAtHlA => ldAtHlReg .a | .ldAB => ldRegReg .a .b | .ldAC => ldRegReg .a .c | .ldAD => ldRegReg .a .d
  | .ldAE => ldRegReg .a .e | .ldAH => ldRegReg .a .h | .ldAL => ldRegReg .a .l | .ldAAtHl => ldRegAtHl .a
  | .ldAA => ldRegReg .a .a | .addAB => alu .add (.reg .b) | .addAC => alu .add (.reg .c)
  | .addAD => alu .add (.reg .d) | .addAE => alu .add (.reg .e) | .addAH => alu .add (.reg .h)
  | .addAL => alu .add (.reg .l) | .addAAtHl => alu .add .atHl | .addAA => alu .add (.reg .a)
  | .adcAB => alu .adc (.reg .b) | .adcAC => alu .adc (.reg .c) | .adcAD => alu .adc (.reg .d)
  | .adcAE => alu .adc (.reg .e) | .adcAH => alu .adc (.reg .h) | .adcAL => alu .adc (.reg .l)
  | .adcAAtHl => alu .adc .atHl | .adcAA => alu .adc (.reg .a) | .subB => alu .sub (.reg .b)
  | .subC => alu .sub (.reg .c) | .subD => alu .sub (.reg .d) | .subE => alu .sub (.reg .e)
  | .subH => alu .sub (.reg .h) | .subL => alu .sub (.reg .l) | .subAtHl => alu .sub .atHl
  | .subA => alu .sub (.reg .a) | .sbcAB => alu .sbc (.reg .b) | .sbcAC => alu .sbc (.reg .c)
  | .sbcAD => alu .sbc (.reg .d) | .sbcAE => alu .sbc (.reg .e) | .sbcAH => alu .sbc (.reg .h)
  | .sbcAL => alu .sbc (.reg .l) | .sbcAAtHl => alu .sbc .atHl | .sbcAA => alu .sbc (.reg .a)
  | .andB => alu .and (.reg .b) | .andC => alu .and (.reg .c) | .andD => alu .and (.reg .d)
  | .andE => alu .and (.reg .e) | .andH => alu .and (.reg .h) | .andL => alu .and (.reg .l)
  | .andAtHl => alu .and .atHl | .andA => alu .and (.reg .a) | .xorB => alu .xor (.reg .b)
  | .xorC => alu .xor (.reg .c) | .xorD => alu .xor (.reg .d) | .xorE => alu .xor (.reg .e)
  | .xorH => alu .xor (.reg .h) | .xorL => alu .xor (.reg .l) | .xorAtHl => alu .xor .atHl
  | .xorA => alu .xor (.reg .a) | .orB => alu .or (.reg .b) | .orC => alu .or (.reg .c)
  | .orD => alu .or (.reg .d) | .orE => alu .or (.reg .e) | .orH => alu .or (.reg .h)
  | .orL => alu .or (.reg .l) | .orAtHl => alu .or .atHl | .orA => alu .or (.reg .a)
  | .cpB => alu .cp (.reg .b) | .cpC => alu .cp (.reg .c) | .cpD => alu .cp (.reg .d)
  | .cpE => alu .cp (.reg .e) | .cpH => alu .cp (.reg .h) | .cpL => alu .cp (.reg .l)
  | .cpAtHl => alu .cp .atHl | .cpA => alu .cp (.reg .a) | .retNz => retCond .nz | .popBc => pop .bc
  | .jpNzA16 nn => jpCond .nz nn | .jpA16 nn => jpA16 nn | .callNzA16 nn => callCond .nz nn
  | .pushBc => push .bc | .addAD8 n => aluImm .add n | .rst00 => rst .o0 | .retZ => retCond .z | .ret => ret
  | .jpZA16 nn => jpCond .z nn | .prefixCb => prefixCb | .callZA16 nn => callCond .z nn
  | .callA16 nn => callA16 nn | .adcAD8 n => aluImm .adc n | .rst08 => rst .o1 | .retNc => retCond .nc
  | .popDe => pop .de | .jpNcA16 nn => jpCond .nc nn | .holeD3 => hole .holeD3 rfl
  | .callNcA16 nn => callCond .nc nn | .pushDe => push .de | .subD8 n => aluImm .sub n | .rst10 => rst .o2
  | .retC => retCond .c | .reti => reti | .jpCA16 nn => jpCond .c nn | .holeDB => hole .holeDB rfl
  | .callCA16 nn => callCond .c nn | .holeDD => hole .holeDD rfl | .sbcAD8 n => aluImm .sbc n
  | .rst18 => rst .o3 | .ldhAtA8A n => ldhAtA8A n | .popHl => pop .hl | .ldhAtCA => ldhAtCA
  | .holeE3 => hole .holeE3 rfl | .holeE4 => hole .holeE4 rfl | .pushHl => push .hl | .andD8 n => aluImm .and n
  | .rst20 => rst .o4 | .addSpE8 e => addSpE8 e | .jpHl => jpHl | .ldAtA16A nn => ldAtA16A nn
  | .holeEB => hole .holeEB rfl | .holeEC => hole .holeEC rfl | .holeED => hole .holeED rfl
  | .xorD8 n => aluImm .xor n | .rst28 => rst .o5 | .ldhAAtA8 n => ldhAAtA8 n | .popAf => pop .af
  | .ldhAAtC => ldhAAtC | .di => di | .holeF4 => hole .holeF4 rfl | .pushAf => push .af
  | .orD8 n => aluImm .or n | .rst30 => rst .o6 | .ldHlSpE8 e => ldHlSpE8 e | .ldSpHl => ldSpHl
  | .ldAAtA16 nn => ldAAtA16 nn | .ei => ei | .holeFC => hole .holeFC rfl | .holeFD => hole .holeFD rfl
  | .cpD8 n => aluImm .cp n | .rst38 => rst .o7 | .rlcB => rot .rlc (.reg .b) | .rlcC => rot .rlc (.reg .c)
  | .rlcD => rot .rlc (.reg .d) | .rlcE => rot .rlc (.reg .e) | .rlcH => rot .rlc (.reg .h)
  | .rlcL => rot .rlc (.reg .l) | .rlcAtHl => rot .rlc .atHl | .rlcA => rot .rlc (.reg .a)
  | .rrcB => rot .rrc (.reg .b) | .rrcC => rot .rrc (.reg .c) | .rrcD => rot .rrc (.reg .d)
  | .rrcE => rot .rrc (.reg .e) | .rrcH => rot .rrc (.reg .h) | .rrcL => rot .rrc (.reg .l)
  | .rrcAtHl => rot .rrc .atHl | .rrcA => rot .rrc (.reg .a) | .rlB => rot .rl (.reg .b)
  | .rlC => rot .rl (.reg .c) | .rlD => rot .rl (.reg .d) | .rlE => rot .rl (.reg .e)
  | .rlH => rot .rl (.reg .h) | .rlL => rot .rl (.reg .l) | .rlAtHl => rot .rl .atHl
  | .rlA => rot .rl (.reg .a) | .rrB => rot .rr (.reg .b) | .rrC => rot .rr (.reg .c)
  | .rrD => rot .rr (.reg .d) | .rrE => rot .rr (.reg .e) | .rrH => rot .rr (.reg .h)
  | .rrL => rot .rr (.reg .l) | .rrAtHl => rot .rr .atHl | .rrA => rot .rr (.reg .a)
  | .slaB => rot .sla (.reg .b) | .slaC => rot .sla (.reg .c) | .slaD => rot .sla (.reg .d)
  | .slaE => rot .sla (.reg .e) | .slaH => rot .sla (.reg .h) | .slaL => rot .sla (.reg .l)
  | .slaAtHl => rot .sla .atHl | .slaA => rot .sla (.reg .a) | .sraB => rot .sra (.reg .b)
  | .sraC => rot .sra (.reg .c) | .sraD => rot .sra (.reg .d) | .sraE => rot .sra (.reg .e)
  | .sraH => rot .sra (.reg .h) | .sraL => rot .sra (.reg .l) | .sraAtHl => rot .sra .atHl
  | .sraA => rot .sra (.reg .a) | .swapB => rot .swap (.reg .b) | .swapC => rot .swap (.reg .c)
  | .swapD => rot .swap (.reg .d) | .swapE => rot .swap (.reg .e) | .swapH => rot .swap (.reg .h)
  | .swapL => rot .swap (.reg .l) | .swapAtHl => rot .swap .atHl | .swapA => rot .swap (.reg .a)
  | .srlB => rot .srl (.reg .b) | .srlC => rot .srl (.reg .c) | .srlD => rot .srl (.reg .d)
  | .srlE => rot .srl (.reg .e) | .srlH => rot .srl (.reg .h) | .srlL => rot .srl (.reg .l)
  | .srlAtHl => rot .srl .atHl | .srlA => rot .srl (.reg .a) | .bit0B => bit .o0 (.reg .b)
  | .bit0C => bit .o0 (.reg .c) | .bit0D => bit .o0 (.reg .d) | .bit0E => bit .o0 (.reg .e)
  | .bit0H => bit .o0 (.reg .h) | .bit0L => bit .o0 (.reg .l) | .bit0AtHl => bit .o0 .atHl
  | .bit0A => bit .o0 (.reg .a) | .bit1B => bit .o1 (.reg .b) | .bit1C => bit .o1 (.reg .c)
  | .bit1D => bit .o1 (.reg .d) | .bit1E => bit .o1 (.reg .e) | .bit1H => bit .o1 (.reg .h)
  | .bit1L => bit .o1 (.reg .l) | .bit1AtHl => bit .o1 .atHl | .bit1A => bit .o1 (.reg .a)
  | .bit2B => bit .o2 (.reg .b) | .bit2C => bit .o2 (.reg .c) | .bit2D => bit .o2 (.reg .d)
  | .bit2E => bit .o2 (.reg .e) | .bit2H => bit .o2 (.reg .h) | .bit2L => bit .o2 (.reg .l)
  | .bit2AtHl => bit .o2 .atHl | .bit2A => bit .o2 (.reg .a) | .bit3B => bit .o3 (.reg .b)
  | .bit3C => bit .o3 (.reg .c) | .bit3D => bit .o3 (.reg .d) | .bit3E => bit .o3 (.reg .e)
  | .bit3H => bit .o3 (.reg .h) | .bit3L => bit .o3 (.reg .l) | .bit3AtHl => bit .o3 .atHl
  | .bit3A => bit .o3 (.reg .a) | .bit4B => bit .o4 (.reg .b) | .bit4C => bit .o4 (.reg .c)
  | .bit4D => bit .o4 (.reg .d) | .bit4E => bit .o4 (.reg .e) | .bit4H => bit .o4 (.reg .h)
  | .bit4L => bit .o4 (.reg .l) | .bit4AtHl => bit .o4 .atHl | .bit4A => bit .o4 (.reg .a)
  | .bit5B => bit .o5 (.reg .b) | .bit5C => bit .o5 (.reg .c) | .bit5D => bit .o5 (.reg .d)
  | .bit5E => bit .o5 (.reg .e) | .bit5H => bit .o5 (.reg .h) | .bit5L => bit .o5 (.reg .l)
  | .bit5AtHl => bit .o5 .atHl | .bit5A => bit .o5 (.reg .a) | .bit6B => bit .o6 (.reg .b)
  | .bit6C => bit .o6 (.reg .c) | .bit6D => bit .o6 (.reg .d) | .bit6E => bit .o6 (.reg .e)
  | .bit6H => bit .o6 (.reg .h) | .bit6L => bit .o6 (.reg .l) | .bit6AtHl => bit .o6 .atHl
  | .bit6A => bit .o6 (.reg .a) | .bit7B => bit .o7 (.reg .b) | .bit7C => bit .o7 (.reg .c)
  | .bit7D => bit .o7 (.reg .d) | .bit7E => bit .o7 (.reg .e) | .bit7H => bit .o7 (.reg .h)
  | .bit7L => bit .o7 (.reg .l) | .bit7AtHl => bit .o7 .atHl | .bit7A => bit .o7 (.reg .a)
  | .res0B => res .o0 (.reg .b) | .res0C => res .o0 (.reg .c) | .res0D => res .o0 (.reg .d)
  | .res0E => res .o0 (.reg .e) | .res0H => res .o0 (.reg .h) | .res0L => res .o0 (.reg .l)
  | .res0AtHl => res .o0 .atHl | .res0A => res .o0 (.reg .a) | .res1B => res .o1 (.reg .b)
  | .res1C => res .o1 (.reg .c) | .res1D => res .o1 (.reg .d) | .res1E => res .o1 (.reg .e)
  | .res1H => res .o1 (.reg .h) | .res1L => res .o1 (.reg .l) | .res1AtHl => res .o1 .atHl
  | .res1A => res .o1 (.reg .a) | .res2B => res .o2 (.reg .b) | .res2C => res .o2 (.reg .c)
  | .res2D => res .o2 (.reg .d) | .res2E => res .o2 (.reg .e) | .res2H => res .o2 (.reg .h)
  | .res2L => res .o2 (.reg .l) | .res2AtHl => res .o2 .atHl | .res2A => res .o2 (.reg .a)
  | .res3B => res .o3 (.reg .b) | .res3C => res .o3 (.reg .c) | .res3D => res .o3 (.reg .d)
  | .res3E => res .o3 (.reg .e) | .res3H => res .o3 (.reg .h) | .res3L => res .o3 (.reg .l)
  | .res3AtHl => res .o3 .atHl | .res3A => res .o3 (.reg .a) | .res4B => res .o4 (.reg .b)
  | .res4C => res .o4 (.reg .c) | .res4D => res .o4 (.reg .d) | .res4E => res .o4 (.reg .e)
  | .res4H => res .o4 (.reg .h) | .res4L => res .o4 (.reg .l) | .res4AtHl => res .o4 .atHl
  | .res4A => res .o4 (.reg .a) | .res5B => res .o5 (.reg .b) | .res5C => res .o5 (.reg .c)
  | .res5D => res .o5 (.reg .d) | .res5E => res .o5 (.reg .e) | .res5H => res .o5 (.reg .h)
  | .res5L => res .o5 (.reg .l) | .res5AtHl => res .o5 .atHl | .res5A => res .o5 (.reg .a)
  | .res6B => res .o6 (.reg .b) | .res6C => res .o6 (.reg .c) | .res6D => res .o6 (.reg .d)
  | .res6E => res .o6 (.reg .e) | .res6H => res .o6 (.reg .h) | .res6L => res .o6 (.reg .l)
  | .res6AtHl => res .o6 .atHl | .res6A => res .o6 (.reg .a) | .res7B => res .o7 (.reg .b)
  | .res7C => res .o7 (.reg .c) | .res7D => res .o7 (.reg .d) | .res7E => res .o7 (.reg .e)
  | .res7H => res .o7 (.reg .h) | .res7L => res .o7 (.reg .l) | .res7AtHl => res .o7 .atHl
  | .res7A => res .o7 (.reg .a) | .set0B => set .o0 (.reg .b) | .set0C => set .o0 (.reg .c)
  | .set0D => set .o0 (.reg .d) | .set0E => set .o0 (.reg .e) | .set0H => set .o0 (.reg .h)
  | .set0L => set .o0 (.reg .l) | .set0AtHl => set .o0 .atHl | .set0A => set .o0 (.reg .a)
  | .set1B => set .o1 (.reg .b) | .set1C => set .o1 (.reg .c) | .set1D => set .o1 (.reg .d)
  | .set1E => set .o1 (.reg .e) | .set1H => set .o1 (.reg .h) | .set1L => set .o1 (.reg .l)
  | .set1AtHl => set .o1 .atHl | .set1A => set .o1 (.reg .a) | .set2B => set .o2 (.reg .b)
  | .set2C => set .o2 (.reg .c) | .set2D => set .o2 (.reg .d) | .set2E => set .o2 (.reg .e)
  | .set2H => set .o2 (.reg .h) | .set2L => set .o2 (.reg .l) | .set2AtHl => set .o2 .atHl
  | .set2A => set .o2 (.reg .a) | .set3B => set .o3 (.reg .b) | .set3C => set .o3 (.reg .c)
  | .set3D => set .o3 (.reg .d) | .set3E => set .o3 (.reg .e) | .set3H => set .o3 (.reg .h)
  | .set3L => set .o3 (.reg .l) | .set3AtHl => set .o3 .atHl | .set3A => set .o3 (.reg .a)
  | .set4B => set .o4 (.reg .b) | .set4C => set .o4 (.reg .c) | .set4D => set .o4 (.reg .d)
  | .set4E => set .o4 (.reg .e) | .set4H => set .o4 (.reg .h) | .set4L => set .o4 (.reg .l)
  | .set4AtHl => set .o4 .atHl | .set4A => set .o4 (.reg .a) | .set5B => set .o5 (.reg .b)
  | .set5C => set .o5 (.reg .c) | .set5D => set .o5 (.reg .d) | .set5E => set .o5 (.reg .e)
  | .set5H => set .o5 (.reg .h) | .set5L => set .o5 (.reg .l) | .set5AtHl => set .o5 .atHl
  | .set5A => set .o5 (.reg .a) | .set6B => set .o6 (.reg .b) | .set6C => set .o6 (.reg .c)
  | .set6D => set .o6 (.reg .d) | .set6E => set .o6 (.reg .e) | .set6H => set .o6 (.reg .h)
  | .set6L => set .o6 (.reg .l) | .set6AtHl => set .o6 .atHl | .set6A => set .o6 (.reg .a)
  | .set7B => set .o7 (.reg .b) | .set7C => set .o7 (.reg .c) | .set7D => set .o7 (.reg .d)
  | .set7E => set .o7 (.reg .e) | .set7H => set .o7 (.reg .h) | .set7L => set .o7 (.reg .l)
  | .set7AtHl => set .o7 .atHl | .set7A => set .o7 (.reg .a)

end Sys2Proof.Machine
end

