-- ==== Sys2Proof/Laws/Memory.lean ====
section
/-! SUPPORT. Memory: a read after a write, that every write keeps the canonical form, and what the word and stack primitives leave
in memory. -/

namespace Sys2Proof.Machine

theorem memRead_memErase_same (m : List Host.Cell) (a : Nat) : memRead (memErase m a) a = unlistedByte := by
  induction m with
  | nil => rfl
  | cons cell rest ih =>
    by_cases h : cell.1 = a
    · simpa [memErase, h] using ih
    · simp only [memErase, ne_eq, h, not_false_eq_true, decide_true, List.filter_cons_of_pos, memRead, if_false] at ih ⊢
      exact ih

theorem memRead_memErase_other (m : List Host.Cell) {a x : Nat} (hx : x ≠ a) : memRead (memErase m a) x = memRead m x := by
  induction m with
  | nil => rfl
  | cons cell rest ih =>
    by_cases h : cell.1 = a
    · have h' : cell.1 ≠ x := by omega
      simp only [memErase, h, ne_eq, not_true_eq_false, decide_false, Bool.false_eq_true, not_false_eq_true,
        List.filter_cons_of_neg, memRead] at ih ⊢
      rw [if_neg (by omega)]
      exact ih
    · simp only [memErase, ne_eq, h, not_false_eq_true, decide_true, List.filter_cons_of_pos, memRead] at ih ⊢
      split
      · rfl
      · exact ih

theorem memRead_memInsert_same (m : List Host.Cell) (a : Nat) (v : Byte) (h : ∀ cell ∈ m, cell.1 ≠ a) :
    memRead (memInsert a v m) a = v := by
  induction m with
  | nil => simp [memInsert, memRead]
  | cons cell rest ih =>
    simp only [memInsert]
    split
    · simp [memRead]
    · simp only [memRead]
      rw [if_neg (h cell (by simp))]
      exact ih fun c hc => h c (by simp [hc])

theorem memRead_memInsert_other (m : List Host.Cell) (a x : Nat) (v : Byte) (hx : x ≠ a) :
    memRead (memInsert a v m) x = memRead m x := by
  induction m with
  | nil => simp [memInsert, memRead, Ne.symm hx]
  | cons cell rest ih =>
    simp only [memInsert]
    split
    · simp [memRead, Ne.symm hx]
    · simp only [memRead]
      split
      · rfl
      · exact ih

theorem not_mem_memErase {m : List Host.Cell} {a : Nat} : ∀ cell ∈ memErase m a, cell.1 ≠ a := by
  intro cell hc
  have := (List.mem_filter.mp hc).2
  simpa using this

/-- A byte after a write: the value written at that address, what was there before at any other. -/
theorem memRead_memWrite (m : List Host.Cell) (a x : Nat) (v : Byte) :
    memRead (memWrite m a v) x = if x = a then v else memRead m x := by
  unfold memWrite
  split
  · rename_i h
    split
    · subst_vars
      exact memRead_memErase_same _ _
    · exact memRead_memErase_other _ ‹_›
  · split
    · subst_vars
      exact memRead_memInsert_same _ _ _ not_mem_memErase
    · rw [memRead_memInsert_other _ _ _ _ ‹_›, memRead_memErase_other _ ‹_›]

theorem memErase_wf {m : List Host.Cell} (h : Memory.wf m) (a : Nat) : Memory.wf (memErase m a) :=
  ⟨h.1.filter _, fun cell hc => h.2 cell (List.mem_filter.mp hc).1⟩

theorem mem_memInsert {m : List Host.Cell} {a : Nat} {v : Byte} {cell : Host.Cell} (h : cell ∈ memInsert a v m) :
    cell = (a, v) ∨ cell ∈ m := by
  induction m with
  | nil => simpa [memInsert] using h
  | cons head rest ih =>
    simp only [memInsert] at h
    split at h
    · simpa using h
    · rcases List.mem_cons.mp h with rfl | h
      · simp
      · rcases ih h with h | h <;> simp [h]

theorem memInsert_wf {m : List Host.Cell} (h : Memory.wf m) {a : Nat} {v : Byte} (ha : a < 65536) (hv : v ≠ unlistedByte)
    (hne : ∀ cell ∈ m, cell.1 ≠ a) : Memory.wf (memInsert a v m) := by
  refine ⟨?_, fun cell hc => ?_⟩
  · obtain ⟨hs, -⟩ := h
    induction m with
    | nil => simp [memInsert]
    | cons head rest ih =>
      rw [List.pairwise_cons] at hs
      simp only [memInsert]
      split
      · rename_i hlt
        refine List.pairwise_cons.mpr ⟨fun c hc => ?_, List.pairwise_cons.mpr hs⟩
        rcases List.mem_cons.mp hc with rfl | hc
        · exact hlt
        · exact Nat.lt_trans hlt (hs.1 c hc)
      · refine List.pairwise_cons.mpr ⟨fun c hc => ?_, ih (fun c hc => hne c (by simp [hc])) hs.2⟩
        rcases mem_memInsert hc with rfl | hc
        · have := hne head (by simp)
          simp only
          omega
        · exact hs.1 c hc
  · rcases mem_memInsert hc with rfl | hc
    · exact ⟨ha, hv⟩
    · exact h.2 cell hc

/-- A write keeps the canonical form. -/
theorem memWrite_wf {m : List Host.Cell} (h : Memory.wf m) {a : Nat} (ha : a < 65536) (v : Byte) :
    Memory.wf (memWrite m a v) := by
  unfold memWrite
  split
  · exact memErase_wf h a
  · exact memInsert_wf (memErase_wf h a) ha ‹_› not_mem_memErase

theorem State.writeByte_wf {s : State} (h : Memory.wf s.mem) (addr : Word) (v : Byte) : Memory.wf (s.writeByte addr v).mem :=
  memWrite_wf h addr.isLt v

theorem State.writeWord_wf {s : State} (h : Memory.wf s.mem) (addr v : Word) : Memory.wf (s.writeWord addr v).mem :=
  writeByte_wf (writeByte_wf h _ _) _ _

theorem State.push16_wf {s : State} (h : Memory.wf s.mem) (v : Word) : Memory.wf (s.push16 v).mem :=
  writeByte_wf (s := State.writeByte { s with sp := s.sp - 2 } _ _) (writeByte_wf (s := { s with sp := s.sp - 2 }) h _ _) _ _

theorem State.setOperand_wf {s : State} (h : Memory.wf s.mem) (o : Operand8) (v : Byte) : Memory.wf (s.setOperand o v).mem := by
  cases o with
  | reg r => simpa [State.setOperand] using h
  | atHl => exact writeByte_wf h _ _

theorem State.interruptEntry_wf {s : State} (h : Memory.wf s.mem) (k : Fin 5) : Memory.wf (s.interruptEntry k).mem :=
  push16_wf (s := { s with ime := false, imePending := false }) h s.pc

/-- A byte after `MemWrite`. -/
theorem State.readByte_writeByte (s : State) (addr x : Word) (v : Byte) :
    (s.writeByte addr v).readByte x = if x = addr then v else s.readByte x := by
  simp only [State.readByte, State.writeByte, memRead_memWrite, BitVec.toNat_inj]

/-- A byte after `MemWriteWord`. -/
theorem State.readByte_writeWord (s : State) (addr v x : Word) :
    (s.writeWord addr v).readByte x =
      if x = addr + 1 then secondByte s.params.wordOrder v
      else if x = addr then firstByte s.params.wordOrder v else s.readByte x := by
  simp only [State.writeWord, State.readByte_writeByte]

/-- A byte after `Push16`: the high byte at the old sp - 1, the low byte at the old sp - 2. -/
theorem State.readByte_push16 (s : State) (v x : Word) :
    (s.push16 v).readByte x =
      if x = s.sp - 2 then lo8 v else if x = s.sp - 1 then hi8 v else s.readByte x := by
  have h : s.sp - 2 + 1 = s.sp - 1 := by bv_omega
  simp only [State.push16, State.readByte_writeByte, h]
  rfl

/-- A byte after an interrupt entry. -/
theorem State.readByte_interruptEntry (s : State) (k : Fin 5) (x : Word) :
    (s.interruptEntry k).readByte x =
      if x = s.sp - 2 then lo8 s.pc else if x = s.sp - 1 then hi8 s.pc else s.readByte x :=
  State.readByte_push16 { s with ime := false, imePending := false } s.pc x

end Sys2Proof.Machine
end

