-- ==== Sys2Proof/Laws/Frame.lean ====
section
/-! SUPPORT. What the shared operations of the meanings leave unchanged, in the terms of Safety: one lemma per operation, for the
statements about instructions to cite. -/

namespace Sys2Proof.Machine

/-! ## Control fields -/

theorem SameControl.refl (s : State) : SameControl s s := ⟨rfl, rfl, rfl, rfl, rfl, rfl, rfl, rfl, rfl, rfl⟩

theorem SameControl.trans {s t u : State} (h : SameControl s t) (k : SameControl t u) : SameControl s u :=
  ⟨k.1.trans h.1, k.2.trans h.2, k.3.trans h.3, k.4.trans h.4, k.5.trans h.5, k.6.trans h.6, k.7.trans h.7, k.8.trans h.8,
    k.9.trans h.9, k.10.trans h.10⟩

theorem sameControl_advance (s : State) (n : Nat) : SameControl s (s.advance n) := ⟨rfl, rfl, rfl, rfl, rfl, rfl, rfl, rfl, rfl, rfl⟩

theorem sameControl_jump (s : State) (target : Word) : SameControl s (s.jump target) :=
  ⟨rfl, rfl, rfl, rfl, rfl, rfl, rfl, rfl, rfl, rfl⟩

theorem sameControl_setReg (s : State) (r : Reg8) (v : Byte) : SameControl s (s.setReg r v) := by
  cases r <;> exact ⟨rfl, rfl, rfl, rfl, rfl, rfl, rfl, rfl, rfl, rfl⟩

theorem sameControl_writeByte (s : State) (addr : Word) (v : Byte) : SameControl s (s.writeByte addr v) :=
  ⟨rfl, rfl, rfl, rfl, rfl, rfl, rfl, rfl, rfl, rfl⟩

theorem sameControl_setOperand (s : State) (o : Operand8) (v : Byte) : SameControl s (s.setOperand o v) := by
  cases o with
  | reg r => exact sameControl_setReg s r v
  | atHl => exact sameControl_writeByte s s.hl v

theorem sameControl_setFlags (s : State) (z n h c : Bool) : SameControl s (s.setFlags z n h c) :=
  ⟨rfl, rfl, rfl, rfl, rfl, rfl, rfl, rfl, rfl, rfl⟩

theorem sameControl_push16 (s : State) (v : Word) : SameControl s (s.push16 v) := ⟨rfl, rfl, rfl, rfl, rfl, rfl, rfl, rfl, rfl, rfl⟩

/-! ## Registers -/

theorem sameRegsBut_setReg (s : State) (r : Reg8) (v : Byte) : SameRegsBut [r] s (s.setReg r v) := by
  intro q hq
  have hne : q ≠ r := by simpa using hq
  cases q <;> cases r <;> first | rfl | exact absurd rfl hne

theorem reg_of_fields {s t : State} (ha : t.a = s.a) (hb : t.b = s.b) (hc : t.c = s.c) (hd : t.d = s.d) (he : t.e = s.e)
    (hh : t.h = s.h) (hl : t.l = s.l) (r : Reg8) : t.reg r = s.reg r := by
  cases r <;> assumption

/-! ## Flags -/

/-- A state whose F is built from four flags has those flags, and F[3:0] = 0. -/
theorem flagsAre_of_f {t : State} {z n h c : Bool} (ht : t.f = flagByte z n h c) : FlagsAre t z n h c := by
  rw [FlagsAre, ht]
  exact ⟨flagByte_zero z n h c, flagByte_subtract z n h c, flagByte_half z n h c, flagByte_carry z n h c, flagByte_low z n h c⟩

/-! ## Memory -/

theorem sameMemory_of_mem {s t : State} (h : t.mem = s.mem) : SameMemory s t := fun addr => by
  simp only [State.readByte, h]

theorem sameMemoryBut_writeByte (s : State) (addr : Word) (v : Byte) : SameMemoryBut [addr] s (s.writeByte addr v) := by
  intro x hx
  have hne : x ≠ addr := by simpa using hx
  rw [State.readByte_writeByte, if_neg hne]

theorem sameMemoryBut_writeWord (s : State) (addr v : Word) : SameMemoryBut [addr, addr + 1] s (s.writeWord addr v) := by
  intro x hx
  have hne : x ≠ addr ∧ x ≠ addr + 1 := by simpa using hx
  rw [State.readByte_writeWord, if_neg hne.2, if_neg hne.1]

theorem sameMemoryBut_push16 (s : State) (v : Word) : SameMemoryBut [s.sp - 1, s.sp - 2] s (s.push16 v) := by
  intro x hx
  have hne : x ≠ s.sp - 1 ∧ x ≠ s.sp - 2 := by simpa using hx
  rw [State.readByte_push16, if_neg hne.2, if_neg hne.1]

/-- Everything a write of an 8-bit operand does to registers and memory. -/
theorem operandWritten_setOperand (o : Operand8) (v : Byte) (s : State) : OperandWritten o v s (s.setOperand o v) := by
  cases o with
  | reg r => exact ⟨by simp [State.setOperand], sameRegsBut_setReg s r v, sameMemory_of_mem (by simp [State.setOperand])⟩
  | atHl =>
    exact ⟨by simp [State.setOperand, State.readByte_writeByte], fun r _ => by cases r <;> rfl, sameMemoryBut_writeByte s s.hl v⟩

/-- `OperandWritten` depends on the registers and the memory only. -/
theorem OperandWritten.transport {o : Operand8} {v : Byte} {s s' t t' : State} (h : OperandWritten o v s t)
    (hs : ∀ r, s'.reg r = s.reg r) (hsm : s'.mem = s.mem) (ht : ∀ r, t'.reg r = t.reg r) (htm : t'.mem = t.mem) :
    OperandWritten o v s' t' := by
  have rs : ∀ addr, s'.readByte addr = s.readByte addr := sameMemory_of_mem hsm
  have rt : ∀ addr, t'.readByte addr = t.readByte addr := sameMemory_of_mem htm
  have hh : s'.h = s.h := hs .h
  have hl : s'.l = s.l := hs .l
  have hhl : s'.hl = s.hl := by rw [State.hl, State.hl, hh, hl]
  cases o with
  | reg r =>
    exact ⟨(ht r).trans h.1, fun q hq => (ht q).trans ((h.2.1 q hq).trans (hs q).symm),
      fun addr => (rt addr).trans ((h.2.2 addr).trans (rs addr).symm)⟩
  | atHl =>
    refine ⟨?_, fun q hq => (ht q).trans ((h.2.1 q hq).trans (hs q).symm), fun addr hq => ?_⟩
    · rw [hhl, rt]
      exact h.1
    · rw [hhl] at hq
      exact (rt addr).trans ((h.2.2 addr hq).trans (rs addr).symm)

end Sys2Proof.Machine
end

