-- ==== Sys2Proof/Laws/Step.lean ====
section
/-! SUPPORT. What the boundary and a step can do, said once: every claim about steps starts from these case lists and does not unfold
the step again. -/

namespace Sys2Proof.Machine

/-- The five ways a boundary ends or goes on (60_exceptions.md R717). -/
theorem boundaryEvent_cases (s : State) :
    (s.runState = .stopped ∧ boundaryEvent s = .ended s.sample) ∨
    (s.runState ≠ .stopped ∧ s.nextDraw.stop = true ∧ boundaryEvent s = .ended (s.sample.setRunState .stopped)) ∨
    (s.runState = .halted ∧ s.nextDraw.stop = false ∧ s.nextDraw.irq = none ∧ boundaryEvent s = .ended s.sample) ∨
    (∃ k, s.runState ≠ .stopped ∧ s.nextDraw.stop = false ∧ s.nextDraw.irq = some k ∧ s.ime = true ∧
      boundaryEvent s = .ended ((s.sample.setRunState .running).interruptEntry k)) ∨
    (s.runState ≠ .stopped ∧ s.nextDraw.stop = false ∧ (s.runState = .halted → s.nextDraw.irq ≠ none) ∧
      (s.ime = false ∨ s.nextDraw.irq = none) ∧ boundaryEvent s = .fetch (s.sample.setRunState .running)) := by
  have hs : s.runState = .running → s.sample.setRunState .running = s.sample := by
    intro h
    simp [State.sample, State.setRunState, ← h]
  cases hr : s.runState <;> cases hst : s.nextDraw.stop <;> cases hi : s.nextDraw.irq <;> cases hm : s.ime <;>
    simp_all [boundaryEvent, boundaryOf, takeInterrupt]

/-- A step whose boundary goes on to fetch dispatches what was fetched (30_encoding.md R140). -/
theorem step_of_fetch {s t : State} (h : boundaryEvent s = .fetch t) : step s = dispatchDecoded t t.decodeFetched := by
  simp [step, cycle, h]

/-- A step that ends at its boundary. -/
theorem step_of_ended {s t : State} (h : boundaryEvent s = .ended t) : step s = .next t := by
  simp [step, cycle, h]

/-- The cases of a step: Stopped, the stop input, an idle Halted step, an interrupt entry, or the dispatch of what is at pc. -/
theorem step_cases (s : State) :
    (s.runState = .stopped ∧ step s = .next s.sample) ∨
    (s.runState ≠ .stopped ∧ s.nextDraw.stop = true ∧ step s = .next (s.sample.setRunState .stopped)) ∨
    (s.runState = .halted ∧ s.nextDraw.stop = false ∧ s.nextDraw.irq = none ∧ step s = .next s.sample) ∨
    (∃ k, s.runState ≠ .stopped ∧ s.nextDraw.stop = false ∧ s.nextDraw.irq = some k ∧ s.ime = true ∧
      step s = .next ((s.sample.setRunState .running).interruptEntry k)) ∨
    (s.runState ≠ .stopped ∧ s.nextDraw.stop = false ∧ (s.runState = .halted → s.nextDraw.irq ≠ none) ∧
      (s.ime = false ∨ s.nextDraw.irq = none) ∧
      step s = dispatchDecoded (s.sample.setRunState .running) s.decodeFetched) := by
  rcases boundaryEvent_cases s with ⟨h, e⟩ | ⟨h, h1, e⟩ | ⟨h, h1, h2, e⟩ | ⟨k, h, h1, h2, h3, e⟩ | ⟨h, h1, h2, h3, e⟩
  · exact .inl ⟨h, step_of_ended e⟩
  · exact .inr (.inl ⟨h, h1, step_of_ended e⟩)
  · exact .inr (.inr (.inl ⟨h, h1, h2, step_of_ended e⟩))
  · exact .inr (.inr (.inr (.inl ⟨k, h, h1, h2, h3, step_of_ended e⟩)))
  · exact .inr (.inr (.inr (.inr ⟨h, h1, h2, h3, step_of_fetch e⟩)))

/-- Sampling the inputs changes neither what is fetched nor where its immediates begin. -/
@[simp] theorem State.sample_decodeFetched (s : State) : s.sample.decodeFetched = s.decodeFetched := rfl

/-- A hole is dispatched in the state as it is (60_exceptions.md R704). -/
theorem State.dispatchState_hole {i : Instr} (h : i.isHole = true) (s : State) : s.dispatchState i = s := by
  simp [State.dispatchState, h]

/-- Any other instruction is dispatched at the entry of its handler. -/
theorem State.dispatchState_handler {i : Instr} (h : i.isHole = false) (s : State) : s.dispatchState i = s.enterHandler := by
  simp [State.dispatchState, h]

end Sys2Proof.Machine
end

