-- ==== Sys2Proof/Laws/HostPort.lean ====
section
/-! SUPPORT. What the host's Step, Execute and Run answer, said once: the reply of a call is the state of the step together with the
error it raised. -/

namespace Sys2Proof.Machine

@[simp] theorem replyWith_next (e : Option ErrorRecord) (t : State) : replyWith e (.next t) = .next ⟨t, e⟩ := rfl

@[simp] theorem raisedError_unimplemented (op byte : Byte) (pc0 : Word) :
    raisedError op pc0 (.unimplemented byte) = some ⟨.unimplemented, byte, pc0⟩ := rfl

theorem raisedError_hole {i : Instr} (h : i.isHole = true) (op : Byte) (pc0 : Word) :
    raisedError op pc0 (.instr i) = some ⟨.decodeFailure, op, pc0⟩ := by simp [raisedError, h]

theorem raisedError_handler {i : Instr} (h : i.isHole = false) (op : Byte) (pc0 : Word) :
    raisedError op pc0 (.instr i) = none := by simp [raisedError, h]

/-- A step that ends at its boundary raises no error. -/
theorem stepError_of_ended {s t : State} (h : boundaryEvent s = .ended t) : stepError s = none := by
  simp [stepError, h]

/-- A step that fetches raises the error of what it fetched. -/
theorem stepError_of_fetch {s t : State} (h : boundaryEvent s = .fetch t) :
    stepError s = raisedError (t.readByte t.pc) t.pc t.decodeFetched := by
  simp [stepError, h]

/-- The reply of Step is the step's own state. -/
theorem hostStep_of_step {s t : State} (h : step s = .next t) : hostStep s = .next ⟨t, stepError s⟩ := by
  simp [hostStep, h]

/-- Execute in Running, by what the opcode decodes to. -/
theorem hostExecute_of_running {s : State} (h : s.runState = .running) (op : Byte) :
    hostExecute s op =
      match decode s.params.profile s.params.wordOrder op (s.readByte s.pc) (s.readByte (s.pc + 1)) with
      | .instr i =>
        replyWith (raisedError op s.pc (.instr i))
          (exec i (if i.isHole then { s with irqNow := none, irqAck := none }
            else State.promoteIme { s with irqNow := none, irqAck := none }))
      | .unimplemented byte =>
        .next ⟨State.raiseError { s with irqNow := none, irqAck := none } .unimplemented byte, some ⟨.unimplemented, byte, s.pc⟩⟩ := by
  unfold hostExecute
  rw [h]
  simp only [State.decodeAt, State.readByte]
  split <;> simp_all

/-- No step of a run is the state it starts from. -/
@[simp] theorem drawnSteps_zero (draws : Nat → BoundaryDraw) (s : State) : drawnSteps draws 0 s = .next s := rfl

/-- A run of one step more, by its first step. -/
theorem drawnSteps_succ {draws : Nat → BoundaryDraw} {s t : State} (h : step (s.withDraw (draws 0)) = .next t) (k : Nat) :
    drawnSteps draws (k + 1) s = drawnSteps (fun n => draws (n + 1)) k t := by simp [drawnSteps, h]

/-- Run returns at once from a Stopped core. -/
@[simp] theorem hostRun_of_stopped {s : State} (h : s.runState = .stopped) (draws : Nat → BoundaryDraw) (fuel : Nat) :
    hostRun draws fuel s = some ⟨s, s.lastError⟩ := by
  cases fuel <;> simp [hostRun, h]

/-- Run with no steps left does not return from any other core. -/
theorem hostRun_zero {s : State} (h : s.runState ≠ .stopped) (draws : Nat → BoundaryDraw) : hostRun draws 0 s = none := by
  simp [hostRun, h]

/-- Run of a core that is not Stopped is one step and the run from there. -/
theorem hostRun_succ {draws : Nat → BoundaryDraw} {s t : State} (h : s.runState ≠ .stopped)
    (ht : step (s.withDraw (draws 0)) = .next t) (fuel : Nat) :
    hostRun draws (fuel + 1) s = hostRun (fun n => draws (n + 1)) fuel t := by simp [hostRun, h, ht]

end Sys2Proof.Machine
end

