-- ==== Sys2Proof/Laws/PerInstr.lean ====
section
/-! SUPPORT. The per-instruction family named in LAWS.json: for each row of the table, the length column agrees with the encoding
and is 1, 2 or 3 (30_encoding.md R120, R145). The bare byte 0xCB is a row of length 1. -/

namespace Sys2Proof.Laws.Encoding

/-- The bytes of an instruction are as many as its row's length, and that is 1, 2 or 3. -/
def Statement (i : Instr) : Prop :=
  ∀ o, (encode o i).length = i.length ∧ (i.length = 1 ∨ i.length = 2 ∨ i.length = 3)

theorem nop : Statement .nop := fun _ => ⟨rfl, .inl rfl⟩
theorem ldBcD16 (nn : Word) : Statement (.ldBcD16 nn) := fun _ => ⟨rfl, .inr (.inr rfl)⟩
theorem ldAtBcA : Statement .ldAtBcA := fun _ => ⟨rfl, .inl rfl⟩
theorem incBc : Statement .incBc := fun _ => ⟨rfl, .inl rfl⟩
theorem incB : Statement .incB := fun _ => ⟨rfl, .inl rfl⟩
theorem decB : Statement .decB := fun _ => ⟨rfl, .inl rfl⟩
theorem ldBD8 (n : Byte) : Statement (.ldBD8 n) := fun _ => ⟨rfl, .inr (.inl rfl)⟩
theorem rlca : Statement .rlca := fun _ => ⟨rfl, .inl rfl⟩
theorem ldAtA16Sp (nn : Word) : Statement (.ldAtA16Sp nn) := fun _ => ⟨rfl, .inr (.inr rfl)⟩
theorem addHlBc : Statement .addHlBc := fun _ => ⟨rfl, .inl rfl⟩
theorem ldAAtBc : Statement .ldAAtBc := fun _ => ⟨rfl, .inl rfl⟩
theorem decBc : Statement .decBc := fun _ => ⟨rfl, .inl rfl⟩
theorem incC : Statement .incC := fun _ => ⟨rfl, .inl rfl⟩
theorem decC : Statement .decC := fun _ => ⟨rfl, .inl rfl⟩
theorem ldCD8 (n : Byte) : Statement (.ldCD8 n) := fun _ => ⟨rfl, .inr (.inl rfl)⟩
theorem rrca : Statement .rrca := fun _ => ⟨rfl, .inl rfl⟩
theorem stop (ignored : Byte) : Statement (.stop ignored) := fun _ => ⟨rfl, .inr (.inl rfl)⟩
theorem ldDeD16 (nn : Word) : Statement (.ldDeD16 nn) := fun _ => ⟨rfl, .inr (.inr rfl)⟩
theorem ldAtDeA : Statement .ldAtDeA := fun _ => ⟨rfl, .inl rfl⟩
theorem incDe : Statement .incDe := fun _ => ⟨rfl, .inl rfl⟩
theorem incD : Statement .incD := fun _ => ⟨rfl, .inl rfl⟩
theorem decD : Statement .decD := fun _ => ⟨rfl, .inl rfl⟩
theorem ldDD8 (n : Byte) : Statement (.ldDD8 n) := fun _ => ⟨rfl, .inr (.inl rfl)⟩
theorem rla : Statement .rla := fun _ => ⟨rfl, .inl rfl⟩
theorem jrE8 (e : Byte) : Statement (.jrE8 e) := fun _ => ⟨rfl, .inr (.inl rfl)⟩
theorem addHlDe : Statement .addHlDe := fun _ => ⟨rfl, .inl rfl⟩
theorem ldAAtDe : Statement .ldAAtDe := fun _ => ⟨rfl, .inl rfl⟩
theorem decDe : Statement .decDe := fun _ => ⟨rfl, .inl rfl⟩
theorem incE : Statement .incE := fun _ => ⟨rfl, .inl rfl⟩
theorem decE : Statement .decE := fun _ => ⟨rfl, .inl rfl⟩
theorem ldED8 (n : Byte) : Statement (.ldED8 n) := fun _ => ⟨rfl, .inr (.inl rfl)⟩
theorem rra : Statement .rra := fun _ => ⟨rfl, .inl rfl⟩
theorem jrNzE8 (e : Byte) : Statement (.jrNzE8 e) := fun _ => ⟨rfl, .inr (.inl rfl)⟩
theorem ldHlD16 (nn : Word) : Statement (.ldHlD16 nn) := fun _ => ⟨rfl, .inr (.inr rfl)⟩
theorem ldAtHlIncA : Statement .ldAtHlIncA := fun _ => ⟨rfl, .inl rfl⟩
theorem incHl : Statement .incHl := fun _ => ⟨rfl, .inl rfl⟩
theorem incH : Statement .incH := fun _ => ⟨rfl, .inl rfl⟩
theorem decH : Statement .decH := fun _ => ⟨rfl, .inl rfl⟩
theorem ldHD8 (n : Byte) : Statement (.ldHD8 n) := fun _ => ⟨rfl, .inr (.inl rfl)⟩
theorem daa : Statement .daa := fun _ => ⟨rfl, .inl rfl⟩
theorem jrZE8 (e : Byte) : Statement (.jrZE8 e) := fun _ => ⟨rfl, .inr (.inl rfl)⟩
theorem addHlHl : Statement .addHlHl := fun _ => ⟨rfl, .inl rfl⟩
theorem ldAAtHlInc : Statement .ldAAtHlInc := fun _ => ⟨rfl, .inl rfl⟩
theorem decHl : Statement .decHl := fun _ => ⟨rfl, .inl rfl⟩
theorem incL : Statement .incL := fun _ => ⟨rfl, .inl rfl⟩
theorem decL : Statement .decL := fun _ => ⟨rfl, .inl rfl⟩
theorem ldLD8 (n : Byte) : Statement (.ldLD8 n) := fun _ => ⟨rfl, .inr (.inl rfl)⟩
theorem cpl : Statement .cpl := fun _ => ⟨rfl, .inl rfl⟩
theorem jrNcE8 (e : Byte) : Statement (.jrNcE8 e) := fun _ => ⟨rfl, .inr (.inl rfl)⟩
theorem ldSpD16 (nn : Word) : Statement (.ldSpD16 nn) := fun _ => ⟨rfl, .inr (.inr rfl)⟩
theorem ldAtHlDecA : Statement .ldAtHlDecA := fun _ => ⟨rfl, .inl rfl⟩
theorem incSp : Statement .incSp := fun _ => ⟨rfl, .inl rfl⟩
theorem incAtHl : Statement .incAtHl := fun _ => ⟨rfl, .inl rfl⟩
theorem decAtHl : Statement .decAtHl := fun _ => ⟨rfl, .inl rfl⟩
theorem ldAtHlD8 (n : Byte) : Statement (.ldAtHlD8 n) := fun _ => ⟨rfl, .inr (.inl rfl)⟩
theorem scf : Statement .scf := fun _ => ⟨rfl, .inl rfl⟩
theorem jrCE8 (e : Byte) : Statement (.jrCE8 e) := fun _ => ⟨rfl, .inr (.inl rfl)⟩
theorem addHlSp : Statement .addHlSp := fun _ => ⟨rfl, .inl rfl⟩
theorem ldAAtHlDec : Statement .ldAAtHlDec := fun _ => ⟨rfl, .inl rfl⟩
theorem decSp : Statement .decSp := fun _ => ⟨rfl, .inl rfl⟩
theorem incA : Statement .incA := fun _ => ⟨rfl, .inl rfl⟩
theorem decA : Statement .decA := fun _ => ⟨rfl, .inl rfl⟩
theorem ldAD8 (n : Byte) : Statement (.ldAD8 n) := fun _ => ⟨rfl, .inr (.inl rfl)⟩
theorem ccf : Statement .ccf := fun _ => ⟨rfl, .inl rfl⟩
theorem ldBB : Statement .ldBB := fun _ => ⟨rfl, .inl rfl⟩
theorem ldBC : Statement .ldBC := fun _ => ⟨rfl, .inl rfl⟩
theorem ldBD : Statement .ldBD := fun _ => ⟨rfl, .inl rfl⟩
theorem ldBE : Statement .ldBE := fun _ => ⟨rfl, .inl rfl⟩
theorem ldBH : Statement .ldBH := fun _ => ⟨rfl, .inl rfl⟩
theorem ldBL : Statement .ldBL := fun _ => ⟨rfl, .inl rfl⟩
theorem ldBAtHl : Statement .ldBAtHl := fun _ => ⟨rfl, .inl rfl⟩
theorem ldBA : Statement .ldBA := fun _ => ⟨rfl, .inl rfl⟩
theorem ldCB : Statement .ldCB := fun _ => ⟨rfl, .inl rfl⟩
theorem ldCC : Statement .ldCC := fun _ => ⟨rfl, .inl rfl⟩
theorem ldCD : Statement .ldCD := fun _ => ⟨rfl, .inl rfl⟩
theorem ldCE : Statement .ldCE := fun _ => ⟨rfl, .inl rfl⟩
theorem ldCH : Statement .ldCH := fun _ => ⟨rfl, .inl rfl⟩
theorem ldCL : Statement .ldCL := fun _ => ⟨rfl, .inl rfl⟩
theorem ldCAtHl : Statement .ldCAtHl := fun _ => ⟨rfl, .inl rfl⟩
theorem ldCA : Statement .ldCA := fun _ => ⟨rfl, .inl rfl⟩
theorem ldDB : Statement .ldDB := fun _ => ⟨rfl, .inl rfl⟩
theorem ldDC : Statement .ldDC := fun _ => ⟨rfl, .inl rfl⟩
theorem ldDD : Statement .ldDD := fun _ => ⟨rfl, .inl rfl⟩
theorem ldDE : Statement .ldDE := fun _ => ⟨rfl, .inl rfl⟩
theorem ldDH : Statement .ldDH := fun _ => ⟨rfl, .inl rfl⟩
theorem ldDL : Statement .ldDL := fun _ => ⟨rfl, .inl rfl⟩
theorem ldDAtHl : Statement .ldDAtHl := fun _ => ⟨rfl, .inl rfl⟩
theorem ldDA : Statement .ldDA := fun _ => ⟨rfl, .inl rfl⟩
theorem ldEB : Statement .ldEB := fun _ => ⟨rfl, .inl rfl⟩
theorem ldEC : Statement .ldEC := fun _ => ⟨rfl, .inl rfl⟩
theorem ldED : Statement .ldED := fun _ => ⟨rfl, .inl rfl⟩
theorem ldEE : Statement .ldEE := fun _ => ⟨rfl, .inl rfl⟩
theorem ldEH : Statement .ldEH := fun _ => ⟨rfl, .inl rfl⟩
theorem ldEL : Statement .ldEL := fun _ => ⟨rfl, .inl rfl⟩
theorem ldEAtHl : Statement .ldEAtHl := fun _ => ⟨rfl, .inl rfl⟩
theorem ldEA : Statement .ldEA := fun _ => ⟨rfl, .inl rfl⟩
theorem ldHB : Statement .ldHB := fun _ => ⟨rfl, .inl rfl⟩
theorem ldHC : Statement .ldHC := fun _ => ⟨rfl, .inl rfl⟩
theorem ldHD : Statement .ldHD := fun _ => ⟨rfl, .inl rfl⟩
theorem ldHE : Statement .ldHE := fun _ => ⟨rfl, .inl rfl⟩
theorem ldHH : Statement .ldHH := fun _ => ⟨rfl, .inl rfl⟩
theorem ldHL : Statement .ldHL := fun _ => ⟨rfl, .inl rfl⟩
theorem ldHAtHl : Statement .ldHAtHl := fun _ => ⟨rfl, .inl rfl⟩
theorem ldHA : Statement .ldHA := fun _ => ⟨rfl, .inl rfl⟩
theorem ldLB : Statement .ldLB := fun _ => ⟨rfl, .inl rfl⟩
theorem ldLC : Statement .ldLC := fun _ => ⟨rfl, .inl rfl⟩
theorem ldLD : Statement .ldLD := fun _ => ⟨rfl, .inl rfl⟩
theorem ldLE : Statement .ldLE := fun _ => ⟨rfl, .inl rfl⟩
theorem ldLH : Statement .ldLH := fun _ => ⟨rfl, .inl rfl⟩
theorem ldLL : Statement .ldLL := fun _ => ⟨rfl, .inl rfl⟩
theorem ldLAtHl : Statement .ldLAtHl := fun _ => ⟨rfl, .inl rfl⟩
theorem ldLA : Statement .ldLA := fun _ => ⟨rfl, .inl rfl⟩
theorem ldAtHlB : Statement .ldAtHlB := fun _ => ⟨rfl, .inl rfl⟩
theorem ldAtHlC : Statement .ldAtHlC := fun _ => ⟨rfl, .inl rfl⟩
theorem ldAtHlD : Statement .ldAtHlD := fun _ => ⟨rfl, .inl rfl⟩
theorem ldAtHlE : Statement .ldAtHlE := fun _ => ⟨rfl, .inl rfl⟩
theorem ldAtHlH : Statement .ldAtHlH := fun _ => ⟨rfl, .inl rfl⟩
theorem ldAtHlL : Statement .ldAtHlL := fun _ => ⟨rfl, .inl rfl⟩
theorem halt : Statement .halt := fun _ => ⟨rfl, .inl rfl⟩
theorem ldAtHlA : Statement .ldAtHlA := fun _ => ⟨rfl, .inl rfl⟩
theorem ldAB : Statement .ldAB := fun _ => ⟨rfl, .inl rfl⟩
theorem ldAC : Statement .ldAC := fun _ => ⟨rfl, .inl rfl⟩
theorem ldAD : Statement .ldAD := fun _ => ⟨rfl, .inl rfl⟩
theorem ldAE : Statement .ldAE := fun _ => ⟨rfl, .inl rfl⟩
theorem ldAH : Statement .ldAH := fun _ => ⟨rfl, .inl rfl⟩
theorem ldAL : Statement .ldAL := fun _ => ⟨rfl, .inl rfl⟩
theorem ldAAtHl : Statement .ldAAtHl := fun _ => ⟨rfl, .inl rfl⟩
theorem ldAA : Statement .ldAA := fun _ => ⟨rfl, .inl rfl⟩
theorem addAB : Statement .addAB := fun _ => ⟨rfl, .inl rfl⟩
theorem addAC : Statement .addAC := fun _ => ⟨rfl, .inl rfl⟩
theorem addAD : Statement .addAD := fun _ => ⟨rfl, .inl rfl⟩
theorem addAE : Statement .addAE := fun _ => ⟨rfl, .inl rfl⟩
theorem addAH : Statement .addAH := fun _ => ⟨rfl, .inl rfl⟩
theorem addAL : Statement .addAL := fun _ => ⟨rfl, .inl rfl⟩
theorem addAAtHl : Statement .addAAtHl := fun _ => ⟨rfl, .inl rfl⟩
theorem addAA : Statement .addAA := fun _ => ⟨rfl, .inl rfl⟩
theorem adcAB : Statement .adcAB := fun _ => ⟨rfl, .inl rfl⟩
theorem adcAC : Statement .adcAC := fun _ => ⟨rfl, .inl rfl⟩
theorem adcAD : Statement .adcAD := fun _ => ⟨rfl, .inl rfl⟩
theorem adcAE : Statement .adcAE := fun _ => ⟨rfl, .inl rfl⟩
theorem adcAH : Statement .adcAH := fun _ => ⟨rfl, .inl rfl⟩
theorem adcAL : Statement .adcAL := fun _ => ⟨rfl, .inl rfl⟩
theorem adcAAtHl : Statement .adcAAtHl := fun _ => ⟨rfl, .inl rfl⟩
theorem adcAA : Statement .adcAA := fun _ => ⟨rfl, .inl rfl⟩
theorem subB : Statement .subB := fun _ => ⟨rfl, .inl rfl⟩
theorem subC : Statement .subC := fun _ => ⟨rfl, .inl rfl⟩
theorem subD : Statement .subD := fun _ => ⟨rfl, .inl rfl⟩
theorem subE : Statement .subE := fun _ => ⟨rfl, .inl rfl⟩
theorem subH : Statement .subH := fun _ => ⟨rfl, .inl rfl⟩
theorem subL : Statement .subL := fun _ => ⟨rfl, .inl rfl⟩
theorem subAtHl : Statement .subAtHl := fun _ => ⟨rfl, .inl rfl⟩
theorem subA : Statement .subA := fun _ => ⟨rfl, .inl rfl⟩
theorem sbcAB : Statement .sbcAB := fun _ => ⟨rfl, .inl rfl⟩
theorem sbcAC : Statement .sbcAC := fun _ => ⟨rfl, .inl rfl⟩
theorem sbcAD : Statement .sbcAD := fun _ => ⟨rfl, .inl rfl⟩
theorem sbcAE : Statement .sbcAE := fun _ => ⟨rfl, .inl rfl⟩
theorem sbcAH : Statement .sbcAH := fun _ => ⟨rfl, .inl rfl⟩
theorem sbcAL : Statement .sbcAL := fun _ => ⟨rfl, .inl rfl⟩
theorem sbcAAtHl : Statement .sbcAAtHl := fun _ => ⟨rfl, .inl rfl⟩
theorem sbcAA : Statement .sbcAA := fun _ => ⟨rfl, .inl rfl⟩
theorem andB : Statement .andB := fun _ => ⟨rfl, .inl rfl⟩
theorem andC : Statement .andC := fun _ => ⟨rfl, .inl rfl⟩
theorem andD : Statement .andD := fun _ => ⟨rfl, .inl rfl⟩
theorem andE : Statement .andE := fun _ => ⟨rfl, .inl rfl⟩
theorem andH : Statement .andH := fun _ => ⟨rfl, .inl rfl⟩
theorem andL : Statement .andL := fun _ => ⟨rfl, .inl rfl⟩
theorem andAtHl : Statement .andAtHl := fun _ => ⟨rfl, .inl rfl⟩
theorem andA : Statement .andA := fun _ => ⟨rfl, .inl rfl⟩
theorem xorB : Statement .xorB := fun _ => ⟨rfl, .inl rfl⟩
theorem xorC : Statement .xorC := fun _ => ⟨rfl, .inl rfl⟩
theorem xorD : Statement .xorD := fun _ => ⟨rfl, .inl rfl⟩
theorem xorE : Statement .xorE := fun _ => ⟨rfl, .inl rfl⟩
theorem xorH : Statement .xorH := fun _ => ⟨rfl, .inl rfl⟩
theorem xorL : Statement .xorL := fun _ => ⟨rfl, .inl rfl⟩
theorem xorAtHl : Statement .xorAtHl := fun _ => ⟨rfl, .inl rfl⟩
theorem xorA : Statement .xorA := fun _ => ⟨rfl, .inl rfl⟩
theorem orB : Statement .orB := fun _ => ⟨rfl, .inl rfl⟩
theorem orC : Statement .orC := fun _ => ⟨rfl, .inl rfl⟩
theorem orD : Statement .orD := fun _ => ⟨rfl, .inl rfl⟩
theorem orE : Statement .orE := fun _ => ⟨rfl, .inl rfl⟩
theorem orH : Statement .orH := fun _ => ⟨rfl, .inl rfl⟩
theorem orL : Statement .orL := fun _ => ⟨rfl, .inl rfl⟩
theorem orAtHl : Statement .orAtHl := fun _ => ⟨rfl, .inl rfl⟩
theorem orA : Statement .orA := fun _ => ⟨rfl, .inl rfl⟩
theorem cpB : Statement .cpB := fun _ => ⟨rfl, .inl rfl⟩
theorem cpC : Statement .cpC := fun _ => ⟨rfl, .inl rfl⟩
theorem cpD : Statement .cpD := fun _ => ⟨rfl, .inl rfl⟩
theorem cpE : Statement .cpE := fun _ => ⟨rfl, .inl rfl⟩
theorem cpH : Statement .cpH := fun _ => ⟨rfl, .inl rfl⟩
theorem cpL : Statement .cpL := fun _ => ⟨rfl, .inl rfl⟩
theorem cpAtHl : Statement .cpAtHl := fun _ => ⟨rfl, .inl rfl⟩
theorem cpA : Statement .cpA := fun _ => ⟨rfl, .inl rfl⟩
theorem retNz : Statement .retNz := fun _ => ⟨rfl, .inl rfl⟩
theorem popBc : Statement .popBc := fun _ => ⟨rfl, .inl rfl⟩
theorem jpNzA16 (nn : Word) : Statement (.jpNzA16 nn) := fun _ => ⟨rfl, .inr (.inr rfl)⟩
theorem jpA16 (nn : Word) : Statement (.jpA16 nn) := fun _ => ⟨rfl, .inr (.inr rfl)⟩
theorem callNzA16 (nn : Word) : Statement (.callNzA16 nn) := fun _ => ⟨rfl, .inr (.inr rfl)⟩
theorem pushBc : Statement .pushBc := fun _ => ⟨rfl, .inl rfl⟩
theorem addAD8 (n : Byte) : Statement (.addAD8 n) := fun _ => ⟨rfl, .inr (.inl rfl)⟩
theorem rst00 : Statement .rst00 := fun _ => ⟨rfl, .inl rfl⟩
theorem retZ : Statement .retZ := fun _ => ⟨rfl, .inl rfl⟩
theorem ret : Statement .ret := fun _ => ⟨rfl, .inl rfl⟩
theorem jpZA16 (nn : Word) : Statement (.jpZA16 nn) := fun _ => ⟨rfl, .inr (.inr rfl)⟩
theorem prefixCb : Statement .prefixCb := fun _ => ⟨rfl, .inl rfl⟩
theorem callZA16 (nn : Word) : Statement (.callZA16 nn) := fun _ => ⟨rfl, .inr (.inr rfl)⟩
theorem callA16 (nn : Word) : Statement (.callA16 nn) := fun _ => ⟨rfl, .inr (.inr rfl)⟩
theorem adcAD8 (n : Byte) : Statement (.adcAD8 n) := fun _ => ⟨rfl, .inr (.inl rfl)⟩
theorem rst08 : Statement .rst08 := fun _ => ⟨rfl, .inl rfl⟩
theorem retNc : Statement .retNc := fun _ => ⟨rfl, .inl rfl⟩
theorem popDe : Statement .popDe := fun _ => ⟨rfl, .inl rfl⟩
theorem jpNcA16 (nn : Word) : Statement (.jpNcA16 nn) := fun _ => ⟨rfl, .inr (.inr rfl)⟩
theorem holeD3 : Statement .holeD3 := fun _ => ⟨rfl, .inl rfl⟩
theorem callNcA16 (nn : Word) : Statement (.callNcA16 nn) := fun _ => ⟨rfl, .inr (.inr rfl)⟩
theorem pushDe : Statement .pushDe := fun _ => ⟨rfl, .inl rfl⟩
theorem subD8 (n : Byte) : Statement (.subD8 n) := fun _ => ⟨rfl, .inr (.inl rfl)⟩
theorem rst10 : Statement .rst10 := fun _ => ⟨rfl, .inl rfl⟩
theorem retC : Statement .retC := fun _ => ⟨rfl, .inl rfl⟩
theorem reti : Statement .reti := fun _ => ⟨rfl, .inl rfl⟩
theorem jpCA16 (nn : Word) : Statement (.jpCA16 nn) := fun _ => ⟨rfl, .inr (.inr rfl)⟩
theorem holeDB : Statement .holeDB := fun _ => ⟨rfl, .inl rfl⟩
theorem callCA16 (nn : Word) : Statement (.callCA16 nn) := fun _ => ⟨rfl, .inr (.inr rfl)⟩
theorem holeDD : Statement .holeDD := fun _ => ⟨rfl, .inl rfl⟩
theorem sbcAD8 (n : Byte) : Statement (.sbcAD8 n) := fun _ => ⟨rfl, .inr (.inl rfl)⟩
theorem rst18 : Statement .rst18 := fun _ => ⟨rfl, .inl rfl⟩
theorem ldhAtA8A (n : Byte) : Statement (.ldhAtA8A n) := fun _ => ⟨rfl, .inr (.inl rfl)⟩
theorem popHl : Statement .popHl := fun _ => ⟨rfl, .inl rfl⟩
theorem ldhAtCA : Statement .ldhAtCA := fun _ => ⟨rfl, .inl rfl⟩
theorem holeE3 : Statement .holeE3 := fun _ => ⟨rfl, .inl rfl⟩
theorem holeE4 : Statement .holeE4 := fun _ => ⟨rfl, .inl rfl⟩
theorem pushHl : Statement .pushHl := fun _ => ⟨rfl, .inl rfl⟩
theorem andD8 (n : Byte) : Statement (.andD8 n) := fun _ => ⟨rfl, .inr (.inl rfl)⟩
theorem rst20 : Statement .rst20 := fun _ => ⟨rfl, .inl rfl⟩
theorem addSpE8 (e : Byte) : Statement (.addSpE8 e) := fun _ => ⟨rfl, .inr (.inl rfl)⟩
theorem jpHl : Statement .jpHl := fun _ => ⟨rfl, .inl rfl⟩
theorem ldAtA16A (nn : Word) : Statement (.ldAtA16A nn) := fun _ => ⟨rfl, .inr (.inr rfl)⟩
theorem holeEB : Statement .holeEB := fun _ => ⟨rfl, .inl rfl⟩
theorem holeEC : Statement .holeEC := fun _ => ⟨rfl, .inl rfl⟩
theorem holeED : Statement .holeED := fun _ => ⟨rfl, .inl rfl⟩
theorem xorD8 (n : Byte) : Statement (.xorD8 n) := fun _ => ⟨rfl, .inr (.inl rfl)⟩
theorem rst28 : Statement .rst28 := fun _ => ⟨rfl, .inl rfl⟩
theorem ldhAAtA8 (n : Byte) : Statement (.ldhAAtA8 n) := fun _ => ⟨rfl, .inr (.inl rfl)⟩
theorem popAf : Statement .popAf := fun _ => ⟨rfl, .inl rfl⟩
theorem ldhAAtC : Statement .ldhAAtC := fun _ => ⟨rfl, .inl rfl⟩
theorem di : Statement .di := fun _ => ⟨rfl, .inl rfl⟩
theorem holeF4 : Statement .holeF4 := fun _ => ⟨rfl, .inl rfl⟩
theorem pushAf : Statement .pushAf := fun _ => ⟨rfl, .inl rfl⟩
theorem orD8 (n : Byte) : Statement (.orD8 n) := fun _ => ⟨rfl, .inr (.inl rfl)⟩
theorem rst30 : Statement .rst30 := fun _ => ⟨rfl, .inl rfl⟩
theorem ldHlSpE8 (e : Byte) : Statement (.ldHlSpE8 e) := fun _ => ⟨rfl, .inr (.inl rfl)⟩
theorem ldSpHl : Statement .ldSpHl := fun _ => ⟨rfl, .inl rfl⟩
theorem ldAAtA16 (nn : Word) : Statement (.ldAAtA16 nn) := fun _ => ⟨rfl, .inr (.inr rfl)⟩
theorem ei : Statement .ei := fun _ => ⟨rfl, .inl rfl⟩
theorem holeFC : Statement .holeFC := fun _ => ⟨rfl, .inl rfl⟩
theorem holeFD : Statement .holeFD := fun _ => ⟨rfl, .inl rfl⟩
theorem cpD8 (n : Byte) : Statement (.cpD8 n) := fun _ => ⟨rfl, .inr (.inl rfl)⟩
theorem rst38 : Statement .rst38 := fun _ => ⟨rfl, .inl rfl⟩
theorem rlcB : Statement .rlcB := fun _ => ⟨rfl, .inr (.inl rfl)⟩
theorem rlcC : Statement .rlcC := fun _ => ⟨rfl, .inr (.inl rfl)⟩
theorem rlcD : Statement .rlcD := fun _ => ⟨rfl, .inr (.inl rfl)⟩
theorem rlcE : Statement .rlcE := fun _ => ⟨rfl, .inr (.inl rfl)⟩
theorem rlcH : Statement .rlcH := fun _ => ⟨rfl, .inr (.inl rfl)⟩
theorem rlcL : Statement .rlcL := fun _ => ⟨rfl, .inr (.inl rfl)⟩
theorem rlcAtHl : Statement .rlcAtHl := fun _ => ⟨rfl, .inr (.inl rfl)⟩
theorem rlcA : Statement .rlcA := fun _ => ⟨rfl, .inr (.inl rfl)⟩
theorem rrcB : Statement .rrcB := fun _ => ⟨rfl, .inr (.inl rfl)⟩
theorem rrcC : Statement .rrcC := fun _ => ⟨rfl, .inr (.inl rfl)⟩
theorem rrcD : Statement .rrcD := fun _ => ⟨rfl, .inr (.inl rfl)⟩
theorem rrcE : Statement .rrcE := fun _ => ⟨rfl, .inr (.inl rfl)⟩
theorem rrcH : Statement .rrcH := fun _ => ⟨rfl, .inr (.inl rfl)⟩
theorem rrcL : Statement .rrcL := fun _ => ⟨rfl, .inr (.inl rfl)⟩
theorem rrcAtHl : Statement .rrcAtHl := fun _ => ⟨rfl, .inr (.inl rfl)⟩
theorem rrcA : Statement .rrcA := fun _ => ⟨rfl, .inr (.inl rfl)⟩
theorem rlB : Statement .rlB := fun _ => ⟨rfl, .inr (.inl rfl)⟩
theorem rlC : Statement .rlC := fun _ => ⟨rfl, .inr (.inl rfl)⟩
theorem rlD : Statement .rlD := fun _ => ⟨rfl, .inr (.inl rfl)⟩
theorem rlE : Statement .rlE := fun _ => ⟨rfl, .inr (.inl rfl)⟩
theorem rlH : Statement .rlH := fun _ => ⟨rfl, .inr (.inl rfl)⟩
theorem rlL : Statement .rlL := fun _ => ⟨rfl, .inr (.inl rfl)⟩
theorem rlAtHl : Statement .rlAtHl := fun _ => ⟨rfl, .inr (.inl rfl)⟩
theorem rlA : Statement .rlA := fun _ => ⟨rfl, .inr (.inl rfl)⟩
theorem rrB : Statement .rrB := fun _ => ⟨rfl, .inr (.inl rfl)⟩
theorem rrC : Statement .rrC := fun _ => ⟨rfl, .inr (.inl rfl)⟩
theorem rrD : Statement .rrD := fun _ => ⟨rfl, .inr (.inl rfl)⟩
theorem rrE : Statement .rrE := fun _ => ⟨rfl, .inr (.inl rfl)⟩
theorem rrH : Statement .rrH := fun _ => ⟨rfl, .inr (.inl rfl)⟩
theorem rrL : Statement .rrL := fun _ => ⟨rfl, .inr (.inl rfl)⟩
theorem rrAtHl : Statement .rrAtHl := fun _ => ⟨rfl, .inr (.inl rfl)⟩
theorem rrA : Statement .rrA := fun _ => ⟨rfl, .inr (.inl rfl)⟩
theorem slaB : Statement .slaB := fun _ => ⟨rfl, .inr (.inl rfl)⟩
theorem slaC : Statement .slaC := fun _ => ⟨rfl, .inr (.inl rfl)⟩
theorem slaD : Statement .slaD := fun _ => ⟨rfl, .inr (.inl rfl)⟩
theorem slaE : Statement .slaE := fun _ => ⟨rfl, .inr (.inl rfl)⟩
theorem slaH : Statement .slaH := fun _ => ⟨rfl, .inr (.inl rfl)⟩
theorem slaL : Statement .slaL := fun _ => ⟨rfl, .inr (.inl rfl)⟩
theorem slaAtHl : Statement .slaAtHl := fun _ => ⟨rfl, .inr (.inl rfl)⟩
theorem slaA : Statement .slaA := fun _ => ⟨rfl, .inr (.inl rfl)⟩
theorem sraB : Statement .sraB := fun _ => ⟨rfl, .inr (.inl rfl)⟩
theorem sraC : Statement .sraC := fun _ => ⟨rfl, .inr (.inl rfl)⟩
theorem sraD : Statement .sraD := fun _ => ⟨rfl, .inr (.inl rfl)⟩
theorem sraE : Statement .sraE := fun _ => ⟨rfl, .inr (.inl rfl)⟩
theorem sraH : Statement .sraH := fun _ => ⟨rfl, .inr (.inl rfl)⟩
theorem sraL : Statement .sraL := fun _ => ⟨rfl, .inr (.inl rfl)⟩
theorem sraAtHl : Statement .sraAtHl := fun _ => ⟨rfl, .inr (.inl rfl)⟩
theorem sraA : Statement .sraA := fun _ => ⟨rfl, .inr (.inl rfl)⟩
theorem swapB : Statement .swapB := fun _ => ⟨rfl, .inr (.inl rfl)⟩
theorem swapC : Statement .swapC := fun _ => ⟨rfl, .inr (.inl rfl)⟩
theorem swapD : Statement .swapD := fun _ => ⟨rfl, .inr (.inl rfl)⟩
theorem swapE : Statement .swapE := fun _ => ⟨rfl, .inr (.inl rfl)⟩
theorem swapH : Statement .swapH := fun _ => ⟨rfl, .inr (.inl rfl)⟩
theorem swapL : Statement .swapL := fun _ => ⟨rfl, .inr (.inl rfl)⟩
theorem swapAtHl : Statement .swapAtHl := fun _ => ⟨rfl, .inr (.inl rfl)⟩
theorem swapA : Statement .swapA := fun _ => ⟨rfl, .inr (.inl rfl)⟩
theorem srlB : Statement .srlB := fun _ => ⟨rfl, .inr (.inl rfl)⟩
theorem srlC : Statement .srlC := fun _ => ⟨rfl, .inr (.inl rfl)⟩
theorem srlD : Statement .srlD := fun _ => ⟨rfl, .inr (.inl rfl)⟩
theorem srlE : Statement .srlE := fun _ => ⟨rfl, .inr (.inl rfl)⟩
theorem srlH : Statement .srlH := fun _ => ⟨rfl, .inr (.inl rfl)⟩
theorem srlL : Statement .srlL := fun _ => ⟨rfl, .inr (.inl rfl)⟩
theorem srlAtHl : Statement .srlAtHl := fun _ => ⟨rfl, .inr (.inl rfl)⟩
theorem srlA : Statement .srlA := fun _ => ⟨rfl, .inr (.inl rfl)⟩
theorem bit0B : Statement .bit0B := fun _ => ⟨rfl, .inr (.inl rfl)⟩
theorem bit0C : Statement .bit0C := fun _ => ⟨rfl, .inr (.inl rfl)⟩
theorem bit0D : Statement .bit0D := fun _ => ⟨rfl, .inr (.inl rfl)⟩
theorem bit0E : Statement .bit0E := fun _ => ⟨rfl, .inr (.inl rfl)⟩
theorem bit0H : Statement .bit0H := fun _ => ⟨rfl, .inr (.inl rfl)⟩
theorem bit0L : Statement .bit0L := fun _ => ⟨rfl, .inr (.inl rfl)⟩
theorem bit0AtHl : Statement .bit0AtHl := fun _ => ⟨rfl, .inr (.inl rfl)⟩
theorem bit0A : Statement .bit0A := fun _ => ⟨rfl, .inr (.inl rfl)⟩
theorem bit1B : Statement .bit1B := fun _ => ⟨rfl, .inr (.inl rfl)⟩
theorem bit1C : Statement .bit1C := fun _ => ⟨rfl, .inr (.inl rfl)⟩
theorem bit1D : Statement .bit1D := fun _ => ⟨rfl, .inr (.inl rfl)⟩
theorem bit1E : Statement .bit1E := fun _ => ⟨rfl, .inr (.inl rfl)⟩
theorem bit1H : Statement .bit1H := fun _ => ⟨rfl, .inr (.inl rfl)⟩
theorem bit1L : Statement .bit1L := fun _ => ⟨rfl, .inr (.inl rfl)⟩
theorem bit1AtHl : Statement .bit1AtHl := fun _ => ⟨rfl, .inr (.inl rfl)⟩
theorem bit1A : Statement .bit1A := fun _ => ⟨rfl, .inr (.inl rfl)⟩
theorem bit2B : Statement .bit2B := fun _ => ⟨rfl, .inr (.inl rfl)⟩
theorem bit2C : Statement .bit2C := fun _ => ⟨rfl, .inr (.inl rfl)⟩
theorem bit2D : Statement .bit2D := fun _ => ⟨rfl, .inr (.inl rfl)⟩
theorem bit2E : Statement .bit2E := fun _ => ⟨rfl, .inr (.inl rfl)⟩
theorem bit2H : Statement .bit2H := fun _ => ⟨rfl, .inr (.inl rfl)⟩
theorem bit2L : Statement .bit2L := fun _ => ⟨rfl, .inr (.inl rfl)⟩
theorem bit2AtHl : Statement .bit2AtHl := fun _ => ⟨rfl, .inr (.inl rfl)⟩
theorem bit2A : Statement .bit2A := fun _ => ⟨rfl, .inr (.inl rfl)⟩
theorem bit3B : Statement .bit3B := fun _ => ⟨rfl, .inr (.inl rfl)⟩
theorem bit3C : Statement .bit3C := fun _ => ⟨rfl, .inr (.inl rfl)⟩
theorem bit3D : Statement .bit3D := fun _ => ⟨rfl, .inr (.inl rfl)⟩
theorem bit3E : Statement .bit3E := fun _ => ⟨rfl, .inr (.inl rfl)⟩
theorem bit3H : Statement .bit3H := fun _ => ⟨rfl, .inr (.inl rfl)⟩
theorem bit3L : Statement .bit3L := fun _ => ⟨rfl, .inr (.inl rfl)⟩
theorem bit3AtHl : Statement .bit3AtHl := fun _ => ⟨rfl, .inr (.inl rfl)⟩
theorem bit3A : Statement .bit3A := fun _ => ⟨rfl, .inr (.inl rfl)⟩
theorem bit4B : Statement .bit4B := fun _ => ⟨rfl, .inr (.inl rfl)⟩
theorem bit4C : Statement .bit4C := fun _ => ⟨rfl, .inr (.inl rfl)⟩
theorem bit4D : Statement .bit4D := fun _ => ⟨rfl, .inr (.inl rfl)⟩
theorem bit4E : Statement .bit4E := fun _ => ⟨rfl, .inr (.inl rfl)⟩
theorem bit4H : Statement .bit4H := fun _ => ⟨rfl, .inr (.inl rfl)⟩
theorem bit4L : Statement .bit4L := fun _ => ⟨rfl, .inr (.inl rfl)⟩
theorem bit4AtHl : Statement .bit4AtHl := fun _ => ⟨rfl, .inr (.inl rfl)⟩
theorem bit4A : Statement .bit4A := fun _ => ⟨rfl, .inr (.inl rfl)⟩
theorem bit5B : Statement .bit5B := fun _ => ⟨rfl, .inr (.inl rfl)⟩
theorem bit5C : Statement .bit5C := fun _ => ⟨rfl, .inr (.inl rfl)⟩
theorem bit5D : Statement .bit5D := fun _ => ⟨rfl, .inr (.inl rfl)⟩
theorem bit5E : Statement .bit5E := fun _ => ⟨rfl, .inr (.inl rfl)⟩
theorem bit5H : Statement .bit5H := fun _ => ⟨rfl, .inr (.inl rfl)⟩
theorem bit5L : Statement .bit5L := fun _ => ⟨rfl, .inr (.inl rfl)⟩
theorem bit5AtHl : Statement .bit5AtHl := fun _ => ⟨rfl, .inr (.inl rfl)⟩
theorem bit5A : Statement .bit5A := fun _ => ⟨rfl, .inr (.inl rfl)⟩
theorem bit6B : Statement .bit6B := fun _ => ⟨rfl, .inr (.inl rfl)⟩
theorem bit6C : Statement .bit6C := fun _ => ⟨rfl, .inr (.inl rfl)⟩
theorem bit6D : Statement .bit6D := fun _ => ⟨rfl, .inr (.inl rfl)⟩
theorem bit6E : Statement .bit6E := fun _ => ⟨rfl, .inr (.inl rfl)⟩
theorem bit6H : Statement .bit6H := fun _ => ⟨rfl, .inr (.inl rfl)⟩
theorem bit6L : Statement .bit6L := fun _ => ⟨rfl, .inr (.inl rfl)⟩
theorem bit6AtHl : Statement .bit6AtHl := fun _ => ⟨rfl, .inr (.inl rfl)⟩
theorem bit6A : Statement .bit6A := fun _ => ⟨rfl, .inr (.inl rfl)⟩
theorem bit7B : Statement .bit7B := fun _ => ⟨rfl, .inr (.inl rfl)⟩
theorem bit7C : Statement .bit7C := fun _ => ⟨rfl, .inr (.inl rfl)⟩
theorem bit7D : Statement .bit7D := fun _ => ⟨rfl, .inr (.inl rfl)⟩
theorem bit7E : Statement .bit7E := fun _ => ⟨rfl, .inr (.inl rfl)⟩
theorem bit7H : Statement .bit7H := fun _ => ⟨rfl, .inr (.inl rfl)⟩
theorem bit7L : Statement .bit7L := fun _ => ⟨rfl, .inr (.inl rfl)⟩
theorem bit7AtHl : Statement .bit7AtHl := fun _ => ⟨rfl, .inr (.inl rfl)⟩
theorem bit7A : Statement .bit7A := fun _ => ⟨rfl, .inr (.inl rfl)⟩
theorem res0B : Statement .res0B := fun _ => ⟨rfl, .inr (.inl rfl)⟩
theorem res0C : Statement .res0C := fun _ => ⟨rfl, .inr (.inl rfl)⟩
theorem res0D : Statement .res0D := fun _ => ⟨rfl, .inr (.inl rfl)⟩
theorem res0E : Statement .res0E := fun _ => ⟨rfl, .inr (.inl rfl)⟩
theorem res0H : Statement .res0H := fun _ => ⟨rfl, .inr (.inl rfl)⟩
theorem res0L : Statement .res0L := fun _ => ⟨rfl, .inr (.inl rfl)⟩
theorem res0AtHl : Statement .res0AtHl := fun _ => ⟨rfl, .inr (.inl rfl)⟩
theorem res0A : Statement .res0A := fun _ => ⟨rfl, .inr (.inl rfl)⟩
theorem res1B : Statement .res1B := fun _ => ⟨rfl, .inr (.inl rfl)⟩
theorem res1C : Statement .res1C := fun _ => ⟨rfl, .inr (.inl rfl)⟩
theorem res1D : Statement .res1D := fun _ => ⟨rfl, .inr (.inl rfl)⟩
theorem res1E : Statement .res1E := fun _ => ⟨rfl, .inr (.inl rfl)⟩
theorem res1H : Statement .res1H := fun _ => ⟨rfl, .inr (.inl rfl)⟩
theorem res1L : Statement .res1L := fun _ => ⟨rfl, .inr (.inl rfl)⟩
theorem res1AtHl : Statement .res1AtHl := fun _ => ⟨rfl, .inr (.inl rfl)⟩
theorem res1A : Statement .res1A := fun _ => ⟨rfl, .inr (.inl rfl)⟩
theorem res2B : Statement .res2B := fun _ => ⟨rfl, .inr (.inl rfl)⟩
theorem res2C : Statement .res2C := fun _ => ⟨rfl, .inr (.inl rfl)⟩
theorem res2D : Statement .res2D := fun _ => ⟨rfl, .inr (.inl rfl)⟩
theorem res2E : Statement .res2E := fun _ => ⟨rfl, .inr (.inl rfl)⟩
theorem res2H : Statement .res2H := fun _ => ⟨rfl, .inr (.inl rfl)⟩
theorem res2L : Statement .res2L := fun _ => ⟨rfl, .inr (.inl rfl)⟩
theorem res2AtHl : Statement .res2AtHl := fun _ => ⟨rfl, .inr (.inl rfl)⟩
theorem res2A : Statement .res2A := fun _ => ⟨rfl, .inr (.inl rfl)⟩
theorem res3B : Statement .res3B := fun _ => ⟨rfl, .inr (.inl rfl)⟩
theorem res3C : Statement .res3C := fun _ => ⟨rfl, .inr (.inl rfl)⟩
theorem res3D : Statement .res3D := fun _ => ⟨rfl, .inr (.inl rfl)⟩
theorem res3E : Statement .res3E := fun _ => ⟨rfl, .inr (.inl rfl)⟩
theorem res3H : Statement .res3H := fun _ => ⟨rfl, .inr (.inl rfl)⟩
theorem res3L : Statement .res3L := fun _ => ⟨rfl, .inr (.inl rfl)⟩
theorem res3AtHl : Statement .res3AtHl := fun _ => ⟨rfl, .inr (.inl rfl)⟩
theorem res3A : Statement .res3A := fun _ => ⟨rfl, .inr (.inl rfl)⟩
theorem res4B : Statement .res4B := fun _ => ⟨rfl, .inr (.inl rfl)⟩
theorem res4C : Statement .res4C := fun _ => ⟨rfl, .inr (.inl rfl)⟩
theorem res4D : Statement .res4D := fun _ => ⟨rfl, .inr (.inl rfl)⟩
theorem res4E : Statement .res4E := fun _ => ⟨rfl, .inr (.inl rfl)⟩
theorem res4H : Statement .res4H := fun _ => ⟨rfl, .inr (.inl rfl)⟩
theorem res4L : Statement .res4L := fun _ => ⟨rfl, .inr (.inl rfl)⟩
theorem res4AtHl : Statement .res4AtHl := fun _ => ⟨rfl, .inr (.inl rfl)⟩
theorem res4A : Statement .res4A := fun _ => ⟨rfl, .inr (.inl rfl)⟩
theorem res5B : Statement .res5B := fun _ => ⟨rfl, .inr (.inl rfl)⟩
theorem res5C : Statement .res5C := fun _ => ⟨rfl, .inr (.inl rfl)⟩
theorem res5D : Statement .res5D := fun _ => ⟨rfl, .inr (.inl rfl)⟩
theorem res5E : Statement .res5E := fun _ => ⟨rfl, .inr (.inl rfl)⟩
theorem res5H : Statement .res5H := fun _ => ⟨rfl, .inr (.inl rfl)⟩
theorem res5L : Statement .res5L := fun _ => ⟨rfl, .inr (.inl rfl)⟩
theorem res5AtHl : Statement .res5AtHl := fun _ => ⟨rfl, .inr (.inl rfl)⟩
theorem res5A : Statement .res5A := fun _ => ⟨rfl, .inr (.inl rfl)⟩
theorem res6B : Statement .res6B := fun _ => ⟨rfl, .inr (.inl rfl)⟩
theorem res6C : Statement .res6C := fun _ => ⟨rfl, .inr (.inl rfl)⟩
theorem res6D : Statement .res6D := fun _ => ⟨rfl, .inr (.inl rfl)⟩
theorem res6E : Statement .res6E := fun _ => ⟨rfl, .inr (.inl rfl)⟩
theorem res6H : Statement .res6H := fun _ => ⟨rfl, .inr (.inl rfl)⟩
theorem res6L : Statement .res6L := fun _ => ⟨rfl, .inr (.inl rfl)⟩
theorem res6AtHl : Statement .res6AtHl := fun _ => ⟨rfl, .inr (.inl rfl)⟩
theorem res6A : Statement .res6A := fun _ => ⟨rfl, .inr (.inl rfl)⟩
theorem res7B : Statement .res7B := fun _ => ⟨rfl, .inr (.inl rfl)⟩
theorem res7C : Statement .res7C := fun _ => ⟨rfl, .inr (.inl rfl)⟩
theorem res7D : Statement .res7D := fun _ => ⟨rfl, .inr (.inl rfl)⟩
theorem res7E : Statement .res7E := fun _ => ⟨rfl, .inr (.inl rfl)⟩
theorem res7H : Statement .res7H := fun _ => ⟨rfl, .inr (.inl rfl)⟩
theorem res7L : Statement .res7L := fun _ => ⟨rfl, .inr (.inl rfl)⟩
theorem res7AtHl : Statement .res7AtHl := fun _ => ⟨rfl, .inr (.inl rfl)⟩
theorem res7A : Statement .res7A := fun _ => ⟨rfl, .inr (.inl rfl)⟩
theorem set0B : Statement .set0B := fun _ => ⟨rfl, .inr (.inl rfl)⟩
theorem set0C : Statement .set0C := fun _ => ⟨rfl, .inr (.inl rfl)⟩
theorem set0D : Statement .set0D := fun _ => ⟨rfl, .inr (.inl rfl)⟩
theorem set0E : Statement .set0E := fun _ => ⟨rfl, .inr (.inl rfl)⟩
theorem set0H : Statement .set0H := fun _ => ⟨rfl, .inr (.inl rfl)⟩
theorem set0L : Statement .set0L := fun _ => ⟨rfl, .inr (.inl rfl)⟩
theorem set0AtHl : Statement .set0AtHl := fun _ => ⟨rfl, .inr (.inl rfl)⟩
theorem set0A : Statement .set0A := fun _ => ⟨rfl, .inr (.inl rfl)⟩
theorem set1B : Statement .set1B := fun _ => ⟨rfl, .inr (.inl rfl)⟩
theorem set1C : Statement .set1C := fun _ => ⟨rfl, .inr (.inl rfl)⟩
theorem set1D : Statement .set1D := fun _ => ⟨rfl, .inr (.inl rfl)⟩
theorem set1E : Statement .set1E := fun _ => ⟨rfl, .inr (.inl rfl)⟩
theorem set1H : Statement .set1H := fun _ => ⟨rfl, .inr (.inl rfl)⟩
theorem set1L : Statement .set1L := fun _ => ⟨rfl, .inr (.inl rfl)⟩
theorem set1AtHl : Statement .set1AtHl := fun _ => ⟨rfl, .inr (.inl rfl)⟩
theorem set1A : Statement .set1A := fun _ => ⟨rfl, .inr (.inl rfl)⟩
theorem set2B : Statement .set2B := fun _ => ⟨rfl, .inr (.inl rfl)⟩
theorem set2C : Statement .set2C := fun _ => ⟨rfl, .inr (.inl rfl)⟩
theorem set2D : Statement .set2D := fun _ => ⟨rfl, .inr (.inl rfl)⟩
theorem set2E : Statement .set2E := fun _ => ⟨rfl, .inr (.inl rfl)⟩
theorem set2H : Statement .set2H := fun _ => ⟨rfl, .inr (.inl rfl)⟩
theorem set2L : Statement .set2L := fun _ => ⟨rfl, .inr (.inl rfl)⟩
theorem set2AtHl : Statement .set2AtHl := fun _ => ⟨rfl, .inr (.inl rfl)⟩
theorem set2A : Statement .set2A := fun _ => ⟨rfl, .inr (.inl rfl)⟩
theorem set3B : Statement .set3B := fun _ => ⟨rfl, .inr (.inl rfl)⟩
theorem set3C : Statement .set3C := fun _ => ⟨rfl, .inr (.inl rfl)⟩
theorem set3D : Statement .set3D := fun _ => ⟨rfl, .inr (.inl rfl)⟩
theorem set3E : Statement .set3E := fun _ => ⟨rfl, .inr (.inl rfl)⟩
theorem set3H : Statement .set3H := fun _ => ⟨rfl, .inr (.inl rfl)⟩
theorem set3L : Statement .set3L := fun _ => ⟨rfl, .inr (.inl rfl)⟩
theorem set3AtHl : Statement .set3AtHl := fun _ => ⟨rfl, .inr (.inl rfl)⟩
theorem set3A : Statement .set3A := fun _ => ⟨rfl, .inr (.inl rfl)⟩
theorem set4B : Statement .set4B := fun _ => ⟨rfl, .inr (.inl rfl)⟩
theorem set4C : Statement .set4C := fun _ => ⟨rfl, .inr (.inl rfl)⟩
theorem set4D : Statement .set4D := fun _ => ⟨rfl, .inr (.inl rfl)⟩
theorem set4E : Statement .set4E := fun _ => ⟨rfl, .inr (.inl rfl)⟩
theorem set4H : Statement .set4H := fun _ => ⟨rfl, .inr (.inl rfl)⟩
theorem set4L : Statement .set4L := fun _ => ⟨rfl, .inr (.inl rfl)⟩
theorem set4AtHl : Statement .set4AtHl := fun _ => ⟨rfl, .inr (.inl rfl)⟩
theorem set4A : Statement .set4A := fun _ => ⟨rfl, .inr (.inl rfl)⟩
theorem set5B : Statement .set5B := fun _ => ⟨rfl, .inr (.inl rfl)⟩
theorem set5C : Statement .set5C := fun _ => ⟨rfl, .inr (.inl rfl)⟩
theorem set5D : Statement .set5D := fun _ => ⟨rfl, .inr (.inl rfl)⟩
theorem set5E : Statement .set5E := fun _ => ⟨rfl, .inr (.inl rfl)⟩
theorem set5H : Statement .set5H := fun _ => ⟨rfl, .inr (.inl rfl)⟩
theorem set5L : Statement .set5L := fun _ => ⟨rfl, .inr (.inl rfl)⟩
theorem set5AtHl : Statement .set5AtHl := fun _ => ⟨rfl, .inr (.inl rfl)⟩
theorem set5A : Statement .set5A := fun _ => ⟨rfl, .inr (.inl rfl)⟩
theorem set6B : Statement .set6B := fun _ => ⟨rfl, .inr (.inl rfl)⟩
theorem set6C : Statement .set6C := fun _ => ⟨rfl, .inr (.inl rfl)⟩
theorem set6D : Statement .set6D := fun _ => ⟨rfl, .inr (.inl rfl)⟩
theorem set6E : Statement .set6E := fun _ => ⟨rfl, .inr (.inl rfl)⟩
theorem set6H : Statement .set6H := fun _ => ⟨rfl, .inr (.inl rfl)⟩
theorem set6L : Statement .set6L := fun _ => ⟨rfl, .inr (.inl rfl)⟩
theorem set6AtHl : Statement .set6AtHl := fun _ => ⟨rfl, .inr (.inl rfl)⟩
theorem set6A : Statement .set6A := fun _ => ⟨rfl, .inr (.inl rfl)⟩
theorem set7B : Statement .set7B := fun _ => ⟨rfl, .inr (.inl rfl)⟩
theorem set7C : Statement .set7C := fun _ => ⟨rfl, .inr (.inl rfl)⟩
theorem set7D : Statement .set7D := fun _ => ⟨rfl, .inr (.inl rfl)⟩
theorem set7E : Statement .set7E := fun _ => ⟨rfl, .inr (.inl rfl)⟩
theorem set7H : Statement .set7H := fun _ => ⟨rfl, .inr (.inl rfl)⟩
theorem set7L : Statement .set7L := fun _ => ⟨rfl, .inr (.inl rfl)⟩
theorem set7AtHl : Statement .set7AtHl := fun _ => ⟨rfl, .inr (.inl rfl)⟩
theorem set7A : Statement .set7A := fun _ => ⟨rfl, .inr (.inl rfl)⟩

end Sys2Proof.Laws.Encoding
end

