-- ==== Sys2Proof/Tests/Slice0.lean ====
section
/-! SUPPORT. Tests: the smoke test of WellFormed, the decoding of every row from the field patterns of the spec, vectors of
95_test_vectors.md, and for every obligation that has hypotheses a state and operands that meet them. The expected results are
the spec's. -/

namespace Sys2Proof.Tests

open Sys2Proof.Machine

/-! ## Helpers -/

/-- The core of the vectors: the reset state of a profile and word order, with pc = 0x0100. The request draw is none and the stop draw
0 unless a vector lists them. -/
def coreAt (p : Profile) (o : WordOrder) : State := { State.resetWith ⟨p, o⟩ with pc := 0x0100, inputs := [.quiet] }

/-- The reset state with a quiet draw at the first boundary. -/
def quietReset : State := { State.reset with inputs := [.quiet] }

/-- Nothing is requested at any boundary. -/
def quietDraws : Nat → BoundaryDraw := fun _ => .quiet

/-- Write bytes to memory. -/
def poke : State → List (Word × Byte) → State
  | s, [] => s
  | s, (addr, v) :: rest => poke (s.writeByte addr v) rest

/-- The outcome is the next state `t`. -/
def isNext (r : Result) (t : State) : Bool :=
  match r with
  | .next u => decide (u = t)
  | _ => false

/-- Step gives the start with the inputs sampled and the listed changes. -/
def stepGives (start : State) (changed : State → State) : Bool := isNext (step start) (changed start.sample)

/-- The answer is a reply with the state `t` and the error `e`. -/
def isReply (r : HostAnswer) (t : State) (e : Option ErrorRecord) : Bool :=
  match r with
  | .next u => decide (u = ⟨t, e⟩)
  | _ => false

/-- The host's Step gives the start with the inputs sampled and the listed changes, and returns the error `e`. -/
def hostStepGives (start : State) (changed : State → State) (e : Option ErrorRecord) : Bool :=
  isReply (hostStep start) (changed start.sample) e

/-- Execute gives the start with the listed changes, and returns the error `e`. -/
def executeGives (op : Byte) (start : State) (changed : State → State) (e : Option ErrorRecord := none) : Bool :=
  isReply (hostExecute start op) (changed start) e

/-- The answer is NotRunning. -/
def answersNotRunning (r : HostAnswer) : Bool :=
  match r with
  | .refused .notRunning => true
  | _ => false

/-! ## WellFormed -/

/-- The bare byte 0xCB is no complete instruction (30_encoding.md R133). -/
theorem test_wellFormed_refuses_bare_prefix : Instr.wellFormed .full .prefixCb = false := by decide

/-- NOP is not in DOC (R130). -/
theorem test_wellFormed_refuses_outside_doc : Instr.wellFormed .doc .nop = false := by decide

theorem test_wellFormed_accepts :
    Instr.wellFormed .full .nop = true ∧ Instr.wellFormed .doc .halt = true ∧ Instr.wellFormed .doc .holeD3 = true := by decide

/-! ## Decoding: the patterns of 30_encoding.md R129, R131, R132 and R133 -/

/-- LD r,r' = 01 xxx yyy (R200). -/
theorem test_decode_ldRegReg : ∀ (o : WordOrder) (dst r : Reg8) (b1 b2 : Byte),
    decode .full o (BitVec.ofNat 8 (0b01000000 + 0b1000 * dst.code + r.code)) b1 b2 = .instr (Instr.ldRegReg dst r) := by
  intro o dst r b1 b2; cases dst <;> cases r <;> rfl

/-- LD r,n = 00 xxx 110 (R201). -/
theorem test_decode_ldRegImm : ∀ (o : WordOrder) (dst : Reg8) (n b2 : Byte),
    decode .full o (BitVec.ofNat 8 (0b00000110 + 0b1000 * dst.code)) n b2 = .instr (Instr.ldRegImm dst n) := by
  intro o dst n b2; cases dst <;> rfl

/-- LD r,(HL) = 01 xxx 110 (R202). -/
theorem test_decode_ldRegAtHl : ∀ (o : WordOrder) (dst : Reg8) (b1 b2 : Byte),
    decode .full o (BitVec.ofNat 8 (0b01000110 + 0b1000 * dst.code)) b1 b2 = .instr (Instr.ldRegAtHl dst) := by
  intro o dst b1 b2; cases dst <;> rfl

/-- LD (HL),r = 01 110 yyy (R203). -/
theorem test_decode_ldAtHlReg : ∀ (o : WordOrder) (r : Reg8) (b1 b2 : Byte),
    decode .full o (BitVec.ofNat 8 (0b01110000 + r.code)) b1 b2 = .instr (Instr.ldAtHlReg r) := by
  intro o r b1 b2; cases r <;> rfl

/-- LD rr,nn = 00 pp0 001, nn with its high byte first under BE and its low byte first under LE (R250). -/
theorem test_decode_ldPairImm : ∀ (p : Pair) (b1 b2 : Byte),
    decode .full .be (BitVec.ofNat 8 (0b00000001 + 0b10000 * p.code)) b1 b2 = .instr (Instr.ldPairImm p (joinBytes b1 b2)) ∧
    decode .full .le (BitVec.ofNat 8 (0b00000001 + 0b10000 * p.code)) b1 b2 = .instr (Instr.ldPairImm p (joinBytes b2 b1)) := by
  intro p b1 b2; cases p <;> exact ⟨rfl, rfl⟩

/-- INC rr = 00 pp0 011, DEC rr = 00 pp1 011, ADD HL,rr = 00 pp1 001 (R400 to R402). -/
theorem test_decode_pairs : ∀ (o : WordOrder) (p : Pair) (b1 b2 : Byte),
    decode .full o (BitVec.ofNat 8 (0b00000011 + 0b10000 * p.code)) b1 b2 = .instr (Instr.incPair p) ∧
    decode .full o (BitVec.ofNat 8 (0b00001011 + 0b10000 * p.code)) b1 b2 = .instr (Instr.decPair p) ∧
    decode .full o (BitVec.ofNat 8 (0b00001001 + 0b10000 * p.code)) b1 b2 = .instr (Instr.addHlPair p) := by
  intro o p b1 b2; cases p <;> exact ⟨rfl, rfl, rfl⟩

/-- PUSH rr = 11 pp0 101, POP rr = 11 pp0 001 (R252, R253, R255). -/
theorem test_decode_stack : ∀ (o : WordOrder) (p : StackPair) (b1 b2 : Byte),
    decode .full o (BitVec.ofNat 8 (0b11000101 + 0b10000 * p.code)) b1 b2 = .instr (Instr.push p) ∧
    decode .full o (BitVec.ofNat 8 (0b11000001 + 0b10000 * p.code)) b1 b2 = .instr (Instr.pop p) := by
  intro o p b1 b2; cases p <;> exact ⟨rfl, rfl⟩

/-- The ALU rows 10 xxx yyy (R300 to R326). -/
theorem test_decode_alu : ∀ (o : WordOrder) (op : AluOp) (v : Operand8) (b1 b2 : Byte),
    decode .full o (BitVec.ofNat 8 (0b10000000 + 0b1000 * op.code + v.code)) b1 b2 = .instr (Instr.alu op v) := by
  intro o op v b1 b2; cases op <;> rcases v with ⟨⟨⟩⟩ | _ <;> rfl

/-- The ALU rows with an immediate, 11 xxx 110 (R301 to R325). -/
theorem test_decode_aluImm : ∀ (o : WordOrder) (op : AluOp) (n b2 : Byte),
    decode .full o (BitVec.ofNat 8 (0b11000110 + 0b1000 * op.code)) n b2 = .instr (Instr.aluImm op n) := by
  intro o op n b2; cases op <;> rfl

/-- INC r = 00 xxx 100, DEC r = 00 xxx 101, x = 110 being (HL) (R330 to R333). -/
theorem test_decode_incDec : ∀ (o : WordOrder) (v : Operand8) (b1 b2 : Byte),
    decode .full o (BitVec.ofNat 8 (0b00000100 + 0b1000 * v.code)) b1 b2 = .instr (Instr.incOp v) ∧
    decode .full o (BitVec.ofNat 8 (0b00000101 + 0b1000 * v.code)) b1 b2 = .instr (Instr.decOp v) := by
  intro o v b1 b2; rcases v with ⟨⟨⟩⟩ | _ <;> exact ⟨rfl, rfl⟩

/-- JR cc,e = 00 1cc 000, RET cc = 11 0cc 000 (R554, R558). -/
theorem test_decode_condShort : ∀ (o : WordOrder) (cc : Cond) (e b2 : Byte),
    decode .full o (BitVec.ofNat 8 (0b00100000 + 0b1000 * cc.code)) e b2 = .instr (Instr.jrCond cc e) ∧
    decode .full o (BitVec.ofNat 8 (0b11000000 + 0b1000 * cc.code)) e b2 = .instr (Instr.retCond cc) := by
  intro o cc e b2; cases cc <;> exact ⟨rfl, rfl⟩

/-- JP cc,nn = 11 0cc 010, CALL cc,nn = 11 0cc 100 (R551, R556). -/
theorem test_decode_condWord : ∀ (cc : Cond) (b1 b2 : Byte),
    decode .full .be (BitVec.ofNat 8 (0b11000010 + 0b1000 * cc.code)) b1 b2 = .instr (Instr.jpCond cc (joinBytes b1 b2)) ∧
    decode .full .le (BitVec.ofNat 8 (0b11000100 + 0b1000 * cc.code)) b1 b2 = .instr (Instr.callCond cc (joinBytes b2 b1)) := by
  intro cc b1 b2; cases cc <;> exact ⟨rfl, rfl⟩

/-- RST t = 11 ttt 111 (R560). -/
theorem test_decode_rst : ∀ (o : WordOrder) (t : Oct) (b1 b2 : Byte),
    decode .full o (BitVec.ofNat 8 (0b11000111 + 0b1000 * t.toNat)) b1 b2 = .instr (Instr.rst t) := by
  intro o t b1 b2; cases t <;> rfl

/-- The CB rotates and shifts 00 xxx yyy (R500 to R507). -/
theorem test_decode_rot : ∀ (o : WordOrder) (op : RotOp) (v : Operand8) (b2 : Byte),
    decode .full o 0b11001011 (BitVec.ofNat 8 (0b1000 * op.code + v.code)) b2 = .instr (Instr.rot op v) := by
  intro o op v b2; cases op <;> rcases v with ⟨⟨⟩⟩ | _ <;> rfl

/-- BIT 01 bbb yyy, RES 10 bbb yyy, SET 11 bbb yyy (R510 to R512). -/
theorem test_decode_bits : ∀ (o : WordOrder) (b : Oct) (v : Operand8) (b2 : Byte),
    decode .full o 0b11001011 (BitVec.ofNat 8 (0b01000000 + 0b1000 * b.toNat + v.code)) b2 = .instr (Instr.bit b v) ∧
    decode .full o 0b11001011 (BitVec.ofNat 8 (0b10000000 + 0b1000 * b.toNat + v.code)) b2 = .instr (Instr.res b v) ∧
    decode .full o 0b11001011 (BitVec.ofNat 8 (0b11000000 + 0b1000 * b.toNat + v.code)) b2 = .instr (Instr.set b v) := by
  intro o b v b2; cases b <;> rcases v with ⟨⟨⟩⟩ | _ <;> exact ⟨rfl, rfl, rfl⟩

/-- The builders name the rows of the opcode table, here at the first and last operand of each field. -/
theorem test_builders_name_rows :
    Instr.ldRegReg .b .a = .ldBA ∧ Instr.ldRegReg .a .b = .ldAB ∧ Instr.ldRegImm .l 0x12 = .ldLD8 0x12 ∧
    Instr.ldRegAtHl .c = .ldCAtHl ∧ Instr.ldAtHlReg .d = .ldAtHlD ∧ Instr.ldPairImm .sp 0x1234 = .ldSpD16 0x1234 ∧
    Instr.push .af = .pushAf ∧ Instr.alu .cp .atHl = .cpAtHl ∧ Instr.alu .sbc (.reg .h) = .sbcAH ∧
    Instr.jrCond .nc 0x12 = .jrNcE8 0x12 ∧ Instr.rst .o5 = .rst28 ∧ Instr.rot .sra (.reg .e) = .sraE ∧
    Instr.bit .o7 (.reg .h) = .bit7H ∧ Instr.res .o0 .atHl = .res0AtHl ∧ Instr.set .o3 (.reg .a) = .set3A := by decide

/-- The rows without an operand field (R131), one byte each. -/
theorem test_decode_fixed : ∀ (o : WordOrder) (b1 b2 : Byte),
    ([0x00, 0x02, 0x07, 0x0A, 0x0F, 0x12, 0x17, 0x1A, 0x1F, 0x22, 0x27, 0x2A, 0x2F, 0x32, 0x37, 0x3A, 0x3F, 0x76, 0xC9, 0xD9,
        0xE2, 0xE9, 0xF2, 0xF3, 0xF9, 0xFB] : List Byte).map (decode .full o · b1 b2) =
      ([.nop, .ldAtBcA, .rlca, .ldAAtBc, .rrca, .ldAtDeA, .rla, .ldAAtDe, .rra, .ldAtHlIncA, .daa, .ldAAtHlInc, .cpl,
        .ldAtHlDecA, .scf, .ldAAtHlDec, .ccf, .halt, .ret, .reti, .ldhAtCA, .jpHl, .ldhAAtC, .di, .ldSpHl, .ei] : List Instr).map
        .instr := fun _ _ _ => rfl

/-- The rows with one immediate byte and no operand field. -/
theorem test_decode_fixedByte : ∀ (o : WordOrder) (n b2 : Byte),
    ([0x10, 0x18, 0x36, 0xE0, 0xE8, 0xF0, 0xF8] : List Byte).map (decode .full o · n b2) =
      ([.stop n, .jrE8 n, .ldAtHlD8 n, .ldhAtA8A n, .addSpE8 n, .ldhAAtA8 n, .ldHlSpE8 n] : List Instr).map .instr :=
  fun _ _ _ => rfl

/-- The rows with a 16-bit immediate and no operand field. -/
theorem test_decode_fixedWord : ∀ (b1 b2 : Byte),
    ([0x08, 0xC3, 0xCD, 0xEA, 0xFA] : List Byte).map (decode .full .be · b1 b2) =
      ([.ldAtA16Sp (joinBytes b1 b2), .jpA16 (joinBytes b1 b2), .callA16 (joinBytes b1 b2), .ldAtA16A (joinBytes b1 b2),
        .ldAAtA16 (joinBytes b1 b2)] : List Instr).map .instr := fun _ _ => rfl

/-- The eleven holes (R132), under both profiles. -/
theorem test_decode_holes : ∀ (p : Profile) (b1 b2 : Byte),
    ([0xD3, 0xDB, 0xDD, 0xE3, 0xE4, 0xEB, 0xEC, 0xED, 0xF4, 0xFC, 0xFD] : List Byte).map (decode p .be · b1 b2) =
      ([.holeD3, .holeDB, .holeDD, .holeE3, .holeE4, .holeEB, .holeEC, .holeED, .holeF4, .holeFC, .holeFD] : List Instr).map
        .instr := by
  intro p b1 b2; cases p <;> rfl

set_option maxRecDepth 20000 in
/-- DOC implements 110 opcodes and 11 holes raise DecodeFailure; the other 135 are Unimplemented (R129, R130). -/
theorem test_doc_counts :
    ((List.range 256).filter fun n => ((decodeBase .be (BitVec.ofNat 8 n) 0 0).inDoc : Bool)).length = 110 ∧
    ((List.range 256).filter fun n =>
      decide (decode .doc .be (BitVec.ofNat 8 n) 0 0 = .unimplemented (BitVec.ofNat 8 n))).length = 135 := by decide

/-! ## The words of the opcode table and the placing of an instruction -/

theorem test_decodeTableWord :
    decodeTableWord 8 0x41 = some .ldBC ∧ decodeTableWord 8 0x01 = some (.ldBcD16 0) ∧ decodeTableWord 8 0xCB = some .prefixCb ∧
    decodeTableWord 16 0xCB7C = some .bit7H ∧ decodeTableWord 8 0xD3 = some .holeD3 := by decide

/-- The first step after reset runs the placed instruction: SET 7,A. -/
theorem test_withFetchWord_runs :
    stepGives (State.reset.withFetchWord 16 0xCBFF) (fun s => { s with a := 0x80, pc := 0x0002 }) = true := by decide

/-! ## Vectors of 95_test_vectors.md, numbered as there -/

/-- V-L8-4: DOC, Step, pc=FFFF; -; bytes 2E 99: L=99, pc=0001; opcode at 0xFFFF: n read at 0x0000. -/
theorem test_vector_L8_4 :
    stepGives (poke { (coreAt .doc .be) with pc := 0xFFFF } [(0xFFFF, 0x2E), (0x0000, 0x99)])
      (fun s => { s with l := 0x99, pc := 0x0001 }) = true := by decide

/-- V-L8-5: DOC, Step, pc=0100; HL=C000, mem[C000]=12; bytes 66: H=12, pc=0101; LD H,(HL): address is the old HL. -/
theorem test_vector_L8_5 :
    stepGives (poke { (coreAt .doc .be) with h := 0xC0, l := 0x00 } [(0xC000, 0x12), (0x0100, 0x66)])
      (fun s => { s with h := 0x12, pc := 0x0101 }) = true := by decide

/-- V-L8-7: DOC, Step, pc=0100; HL=0101; bytes 36 AB: pc=0102; stores over its own immediate after reading it. -/
theorem test_vector_L8_7 :
    stepGives (poke { (coreAt .doc .be) with h := 0x01, l := 0x01 } [(0x0100, 0x36), (0x0101, 0xAB)])
      (fun s => { s with pc := 0x0102 }) = true := by decide

/-- V-L8-11: DOC, Step, pc=0100; HL=0000, mem[0000]=3C; bytes 3A: A=3C, H=FF, L=FF, pc=0101; HL wraps to 0xFFFF. -/
theorem test_vector_L8_11 :
    stepGives (poke { (coreAt .doc .be) with h := 0x00, l := 0x00 } [(0x0000, 0x3C), (0x0100, 0x3A)])
      (fun s => { s with a := 0x3C, h := 0xFF, l := 0xFF, pc := 0x0101 }) = true := by decide

/-- V-L8-14: DOC, Step, pc=0100; C=FF, mem[FFFF]=42; bytes F2: A=42, pc=0101. -/
theorem test_vector_L8_14 :
    stepGives (poke { (coreAt .doc .be) with c := 0xFF } [(0xFFFF, 0x42), (0x0100, 0xF2)])
      (fun s => { s with a := 0x42, pc := 0x0101 }) = true := by decide

/-- V-L8-17: DOC, Step, pc=0100; A=A5; bytes E0 00: pc=0102, mem[FF00]=A5. -/
theorem test_vector_L8_17 :
    stepGives (poke { (coreAt .doc .be) with a := 0xA5 } [(0x0100, 0xE0), (0x0101, 0x00)])
      (fun s => poke { s with pc := 0x0102 } [(0xFF00, 0xA5)]) = true := by decide

/-- V-L8-19: DOC/LE, Step, pc=0100; mem[1234]=01, mem[3412]=02; bytes FA 12 34: A=02, pc=0103. -/
theorem test_vector_L8_19 :
    stepGives (poke (coreAt .doc .le) [(0x1234, 0x01), (0x3412, 0x02), (0x0100, 0xFA), (0x0101, 0x12), (0x0102, 0x34)])
      (fun s => { s with a := 0x02, pc := 0x0103 }) = true := by decide

/-- V-L8-22: DOC, Execute(0x06), pc=0100; mem[0100]=12: B=12, pc=0101; Execute: n read at pc0, pc + 1 only. -/
theorem test_vector_L8_22 :
    executeGives 0x06 (poke (coreAt .doc .be) [(0x0100, 0x12)])
      (fun s => { s with b := 0x12, pc := 0x0101 }) = true := by decide

/-- V-L16-2: DOC/LE, Step, pc=0100; -; bytes 01 12 34: B=34, C=12, pc=0103. -/
theorem test_vector_L16_2 :
    stepGives (poke (coreAt .doc .le) [(0x0100, 0x01), (0x0101, 0x12), (0x0102, 0x34)])
      (fun s => { s with b := 0x34, c := 0x12, pc := 0x0103 }) = true := by decide

/-- V-L16-4: DOC, Execute(0x21), pc=0100; mem[0100]=AB, mem[0101]=CD: H=AB, L=CD, pc=0102; Execute: pc + 2 (source section 8). -/
theorem test_vector_L16_4 :
    executeGives 0x21 (poke (coreAt .doc .be) [(0x0100, 0xAB), (0x0101, 0xCD)])
      (fun s => { s with h := 0xAB, l := 0xCD, pc := 0x0102 }) = true := by decide

/-- V-L16-7: DOC/LE, Step, pc=0100; sp=FFFE, BC=1234; bytes C5: sp=FFFC, pc=0101, mem[FFFC]=34, mem[FFFD]=12; the stack order does not follow WORD_ORDER. -/
theorem test_vector_L16_7 :
    stepGives (poke { (coreAt .doc .le) with sp := 0xFFFE, b := 0x12, c := 0x34 } [(0x0100, 0xC5)])
      (fun s => poke { s with sp := 0xFFFC, pc := 0x0101 } [(0xFFFC, 0x34), (0xFFFD, 0x12)]) = true := by decide

/-- V-L16-8: DOC, Step, pc=0100; sp=0000, HL=ABCD; bytes E5: sp=FFFE, pc=0101, mem[FFFE]=CD, mem[FFFF]=AB; sp wraps. -/
theorem test_vector_L16_8 :
    stepGives (poke { (coreAt .doc .be) with sp := 0x0000, h := 0xAB, l := 0xCD } [(0x0100, 0xE5)])
      (fun s => poke { s with sp := 0xFFFE, pc := 0x0101 } [(0xFFFE, 0xCD), (0xFFFF, 0xAB)]) = true := by decide

/-- V-L16-10: DOC, Step, pc=0100; sp=FFFF, mem[FFFF]=11, mem[0000]=22; bytes E1: H=22, L=11, sp=0001, pc=0101; reads 0xFFFF then 0x0000. -/
theorem test_vector_L16_10 :
    stepGives (poke { (coreAt .doc .be) with sp := 0xFFFF } [(0xFFFF, 0x11), (0x0000, 0x22), (0x0100, 0xE1)])
      (fun s => { s with h := 0x22, l := 0x11, sp := 0x0001, pc := 0x0101 }) = true := by decide

/-- V-L16-11: DOC, Step, pc=0100; sp=C000, mem[C000]=FF, mem[C001]=01; bytes F1: A=01, F=F0, sp=C002, pc=0101; F low nibble discarded. -/
theorem test_vector_L16_11 :
    stepGives (poke { (coreAt .doc .be) with sp := 0xC000 } [(0xC000, 0xFF), (0xC001, 0x01), (0x0100, 0xF1)])
      (fun s => { s with a := 0x01, f := 0xF0, sp := 0xC002, pc := 0x0101 }) = true := by decide

/-- V-L16-14: DOC/LE, Step, pc=0100; sp=ABCD; bytes 08 00 C0: pc=0103, mem[C000]=CD, mem[C001]=AB. -/
theorem test_vector_L16_14 :
    stepGives (poke { (coreAt .doc .le) with sp := 0xABCD } [(0x0100, 0x08), (0x0101, 0x00), (0x0102, 0xC0)])
      (fun s => poke { s with pc := 0x0103 } [(0xC000, 0xCD), (0xC001, 0xAB)]) = true := by decide

/-- V-L16-15: DOC, Step, pc=0100; sp=1234; bytes 08 FF FF: pc=0103, mem[0000]=34, mem[FFFF]=12; second byte wraps to 0x0000. -/
theorem test_vector_L16_15 :
    stepGives (poke { (coreAt .doc .be) with sp := 0x1234 } [(0x0100, 0x08), (0x0101, 0xFF), (0x0102, 0xFF)])
      (fun s => poke { s with pc := 0x0103 } [(0x0000, 0x34), (0xFFFF, 0x12)]) = true := by decide

/-- V-L16-17: DOC, Step, pc=0100; sp=0000, F=F0; bytes F8 FF: F=00, H=FF, L=FF, pc=0102; e = -1. -/
theorem test_vector_L16_17 :
    stepGives (poke { (coreAt .doc .be) with sp := 0x0000, f := 0xF0 } [(0x0100, 0xF8), (0x0101, 0xFF)])
      (fun s => { s with f := 0x00, h := 0xFF, l := 0xFF, pc := 0x0102 }) = true := by decide

/-- V-A8-1: DOC, Step, pc=0100; A=80; bytes 87: A=00, F=90, pc=0101. -/
theorem test_vector_A8_1 :
    stepGives (poke { (coreAt .doc .be) with a := 0x80 } [(0x0100, 0x87)])
      (fun s => { s with a := 0x00, f := 0x90, pc := 0x0101 }) = true := by decide

/-- V-A8-3: DOC, Step, pc=0100; A=01, F=40; bytes C6 FF: A=00, F=B0, pc=0102; N cleared. -/
theorem test_vector_A8_3 :
    stepGives (poke { (coreAt .doc .be) with a := 0x01, f := 0x40 } [(0x0100, 0xC6), (0x0101, 0xFF)])
      (fun s => { s with a := 0x00, f := 0xB0, pc := 0x0102 }) = true := by decide

/-- V-A8-6: FULL, Step, pc=0100; A=FF, F=10; bytes CE 00: A=00, F=B0, pc=0102. -/
theorem test_vector_A8_6 :
    stepGives (poke { (coreAt .full .be) with a := 0xFF, f := 0x10 } [(0x0100, 0xCE), (0x0101, 0x00)])
      (fun s => { s with a := 0x00, f := 0xB0, pc := 0x0102 }) = true := by decide

/-- V-A8-10: FULL, Step, pc=0100; A=00, B=FF, F=10; bytes 98: F=F0, pc=0101; 0 - 0xFF - 1. -/
theorem test_vector_A8_10 :
    stepGives (poke { (coreAt .full .be) with a := 0x00, b := 0xFF, f := 0x10 } [(0x0100, 0x98)])
      (fun s => { s with f := 0xF0, pc := 0x0101 }) = true := by decide

/-- V-A8-11: FULL, Step, pc=0100; A=10, F=10; bytes DE 0F: A=00, F=E0, pc=0102. -/
theorem test_vector_A8_11 :
    stepGives (poke { (coreAt .full .be) with a := 0x10, f := 0x10 } [(0x0100, 0xDE), (0x0101, 0x0F)])
      (fun s => { s with a := 0x00, f := 0xE0, pc := 0x0102 }) = true := by decide

/-- V-A8-13: FULL, Step, pc=0100; A=FF, F=50; bytes E6 3C: A=3C, F=20, pc=0102. -/
theorem test_vector_A8_13 :
    stepGives (poke { (coreAt .full .be) with a := 0xFF, f := 0x50 } [(0x0100, 0xE6), (0x0101, 0x3C)])
      (fun s => { s with a := 0x3C, f := 0x20, pc := 0x0102 }) = true := by decide

/-- V-A8-14: FULL, Step, pc=0100; A=5A, F=70; bytes AF: A=00, F=80, pc=0101; XOR A. -/
theorem test_vector_A8_14 :
    stepGives (poke { (coreAt .full .be) with a := 0x5A, f := 0x70 } [(0x0100, 0xAF)])
      (fun s => { s with a := 0x00, f := 0x80, pc := 0x0101 }) = true := by decide

/-- V-A8-17: FULL, Step, pc=0100; A=3C, B=40; bytes B8: F=50, pc=0101; A unchanged. -/
theorem test_vector_A8_17 :
    stepGives (poke { (coreAt .full .be) with a := 0x3C, b := 0x40 } [(0x0100, 0xB8)])
      (fun s => { s with f := 0x50, pc := 0x0101 }) = true := by decide

/-- V-A8-20: FULL, Step, pc=0100; B=FF, F=10; bytes 04: F=B0, B=00, pc=0101; C kept. -/
theorem test_vector_A8_20 :
    stepGives (poke { (coreAt .full .be) with b := 0xFF, f := 0x10 } [(0x0100, 0x04)])
      (fun s => { s with f := 0xB0, b := 0x00, pc := 0x0101 }) = true := by decide

/-- V-A8-25: FULL, Step, pc=0100; HL=C000, mem[C000]=10; bytes 35: F=60, pc=0101, mem[C000]=0F. -/
theorem test_vector_A8_25 :
    stepGives (poke { (coreAt .full .be) with h := 0xC0, l := 0x00 } [(0xC000, 0x10), (0x0100, 0x35)])
      (fun s => poke { s with f := 0x60, pc := 0x0101 } [(0xC000, 0x0F)]) = true := by decide

/-- V-A8-26: DOC, Step, pc=0100; A=01; bytes 90: Stopped, last_error=(2, 0x90, 0x0100); SUB is not in DOC. -/
theorem test_vector_A8_26 :
    stepGives (poke { (coreAt .doc .be) with a := 0x01 } [(0x0100, 0x90)])
      (fun s => { s with runState := .stopped, lastError := some ⟨.unimplemented, 0x90, 0x0100⟩ }) = true := by decide

/-- V-A16-2: FULL, Step, pc=0100; sp=0000; bytes 3B: sp=FFFF, pc=0101. -/
theorem test_vector_A16_2 :
    stepGives (poke { (coreAt .full .be) with sp := 0x0000 } [(0x0100, 0x3B)])
      (fun s => { s with sp := 0xFFFF, pc := 0x0101 }) = true := by decide

/-- V-A16-3: FULL, Step, pc=0100; HL=0FFF, BC=0001, F=80; bytes 09: F=A0, H=10, L=00, pc=0101; Z kept. -/
theorem test_vector_A16_3 :
    stepGives (poke { (coreAt .full .be) with h := 0x0F, l := 0xFF, b := 0x00, c := 0x01, f := 0x80 } [(0x0100, 0x09)])
      (fun s => { s with f := 0xA0, h := 0x10, l := 0x00, pc := 0x0101 }) = true := by decide

/-- V-A16-8: FULL, Step, pc=0100; sp=0080; bytes E8 80: F=10, sp=0000, pc=0102; result 0, Z stays 0. -/
theorem test_vector_A16_8 :
    stepGives (poke { (coreAt .full .be) with sp := 0x0080 } [(0x0100, 0xE8), (0x0101, 0x80)])
      (fun s => { s with f := 0x10, sp := 0x0000, pc := 0x0102 }) = true := by decide

/-- V-R-2: FULL, Step, pc=0100; A=00, F=80; bytes 07: F=00, pc=0101; Z cleared. -/
theorem test_vector_R_2 :
    stepGives (poke { (coreAt .full .be) with a := 0x00, f := 0x80 } [(0x0100, 0x07)])
      (fun s => { s with f := 0x00, pc := 0x0101 }) = true := by decide

/-- V-R-4: FULL, Step, pc=0100; A=80; bytes 17: A=00, F=10, pc=0101; A = 0 but Z = 0. -/
theorem test_vector_R_4 :
    stepGives (poke { (coreAt .full .be) with a := 0x80 } [(0x0100, 0x17)])
      (fun s => { s with a := 0x00, f := 0x10, pc := 0x0101 }) = true := by decide

/-- V-R-7: FULL, Step, pc=0100; A=9A; bytes 27: A=00, F=90, pc=0101; after 0x99 + 0x01. -/
theorem test_vector_R_7 :
    stepGives (poke { (coreAt .full .be) with a := 0x9A } [(0x0100, 0x27)])
      (fun s => { s with a := 0x00, f := 0x90, pc := 0x0101 }) = true := by decide

/-- V-R-8: FULL, Step, pc=0100; A=0F, F=60; bytes 27: A=09, F=40, pc=0101; after 0x10 - 0x01. -/
theorem test_vector_R_8 :
    stepGives (poke { (coreAt .full .be) with a := 0x0F, f := 0x60 } [(0x0100, 0x27)])
      (fun s => { s with a := 0x09, f := 0x40, pc := 0x0101 }) = true := by decide

/-- V-R-9: FULL, Step, pc=0100; A=00, F=30; bytes 27: A=66, F=10, pc=0101; after 0x99 + 0x67 = 0x100. -/
theorem test_vector_R_9 :
    stepGives (poke { (coreAt .full .be) with a := 0x00, f := 0x30 } [(0x0100, 0x27)])
      (fun s => { s with a := 0x66, f := 0x10, pc := 0x0101 }) = true := by decide

/-- V-R-10: FULL, Step, pc=0100; A=35, F=90; bytes 2F: A=CA, F=F0, pc=0101. -/
theorem test_vector_R_10 :
    stepGives (poke { (coreAt .full .be) with a := 0x35, f := 0x90 } [(0x0100, 0x2F)])
      (fun s => { s with a := 0xCA, f := 0xF0, pc := 0x0101 }) = true := by decide

/-- V-R-11: FULL, Step, pc=0100; F=E0; bytes 37: F=90, pc=0101. -/
theorem test_vector_R_11 :
    stepGives (poke { (coreAt .full .be) with f := 0xE0 } [(0x0100, 0x37)])
      (fun s => { s with f := 0x90, pc := 0x0101 }) = true := by decide

/-- V-R-12: FULL, Step, pc=0100; F=90; bytes 3F: F=80, pc=0101. -/
theorem test_vector_R_12 :
    stepGives (poke { (coreAt .full .be) with f := 0x90 } [(0x0100, 0x3F)])
      (fun s => { s with f := 0x80, pc := 0x0101 }) = true := by decide

/-- V-CB-2: FULL, Step, pc=0100; C=80; bytes CB 11: F=90, C=00, pc=0102; unlike RLA, Z = 1. -/
theorem test_vector_CB_2 :
    stepGives (poke { (coreAt .full .be) with c := 0x80 } [(0x0100, 0xCB), (0x0101, 0x11)])
      (fun s => { s with f := 0x90, c := 0x00, pc := 0x0102 }) = true := by decide

/-- V-CB-3: FULL, Step, pc=0100; A=81; bytes CB 2F: A=C0, F=10, pc=0102. -/
theorem test_vector_CB_3 :
    stepGives (poke { (coreAt .full .be) with a := 0x81 } [(0x0100, 0xCB), (0x0101, 0x2F)])
      (fun s => { s with a := 0xC0, f := 0x10, pc := 0x0102 }) = true := by decide

/-- V-CB-5: FULL, Step, pc=0100; A=F0, F=10; bytes CB 37: A=0F, F=00, pc=0102; C cleared. -/
theorem test_vector_CB_5 :
    stepGives (poke { (coreAt .full .be) with a := 0xF0, f := 0x10 } [(0x0100, 0xCB), (0x0101, 0x37)])
      (fun s => { s with a := 0x0F, f := 0x00, pc := 0x0102 }) = true := by decide

/-- V-CB-6: FULL, Step, pc=0100; HL=C000, mem[C000]=80; bytes CB 26: F=90, pc=0102, mem[C000]=00. -/
theorem test_vector_CB_6 :
    stepGives (poke { (coreAt .full .be) with h := 0xC0, l := 0x00 } [(0xC000, 0x80), (0x0100, 0xCB), (0x0101, 0x26)])
      (fun s => poke { s with f := 0x90, pc := 0x0102 } [(0xC000, 0x00)]) = true := by decide

/-- V-CB-7: FULL, Step, pc=0100; D=01, F=10; bytes CB 1A: D=80, pc=0102. -/
theorem test_vector_CB_7 :
    stepGives (poke { (coreAt .full .be) with d := 0x01, f := 0x10 } [(0x0100, 0xCB), (0x0101, 0x1A)])
      (fun s => { s with d := 0x80, pc := 0x0102 }) = true := by decide

/-- V-CB-8: FULL, Step, pc=0100; E=01; bytes CB 0B: F=10, E=80, pc=0102. -/
theorem test_vector_CB_8 :
    stepGives (poke { (coreAt .full .be) with e := 0x01 } [(0x0100, 0xCB), (0x0101, 0x0B)])
      (fun s => { s with f := 0x10, e := 0x80, pc := 0x0102 }) = true := by decide

/-- V-CB-9: FULL, Step, pc=0100; H=80, F=10; bytes CB 7C: F=30, pc=0102; C kept. -/
theorem test_vector_CB_9 :
    stepGives (poke { (coreAt .full .be) with h := 0x80, f := 0x10 } [(0x0100, 0xCB), (0x0101, 0x7C)])
      (fun s => { s with f := 0x30, pc := 0x0102 }) = true := by decide

/-- V-CB-11: FULL, Step, pc=0100; A=FF, F=70; bytes CB 87: A=FE, pc=0102; F unchanged. -/
theorem test_vector_CB_11 :
    stepGives (poke { (coreAt .full .be) with a := 0xFF, f := 0x70 } [(0x0100, 0xCB), (0x0101, 0x87)])
      (fun s => { s with a := 0xFE, pc := 0x0102 }) = true := by decide

/-- V-CB-12: FULL, Step, pc=0100; HL=C000; bytes CB FE: pc=0102, mem[C000]=80. -/
theorem test_vector_CB_12 :
    stepGives (poke { (coreAt .full .be) with h := 0xC0, l := 0x00 } [(0x0100, 0xCB), (0x0101, 0xFE)])
      (fun s => poke { s with pc := 0x0102 } [(0xC000, 0x80)]) = true := by decide

/-- V-CB-13: DOC, Step, pc=0100; -; bytes CB 00: Stopped, last_error=(2, 0xCB, 0x0100); second byte not read. -/
theorem test_vector_CB_13 :
    stepGives (poke (coreAt .doc .be) [(0x0100, 0xCB), (0x0101, 0x00)])
      (fun s => { s with runState := .stopped, lastError := some ⟨.unimplemented, 0xCB, 0x0100⟩ }) = true := by decide

/-- V-C-2: FULL/LE, Step, pc=0100; -; bytes C3 12 34: pc=3412. -/
theorem test_vector_C_2 :
    stepGives (poke (coreAt .full .le) [(0x0100, 0xC3), (0x0101, 0x12), (0x0102, 0x34)])
      (fun s => { s with pc := 0x3412 }) = true := by decide

/-- V-C-4: FULL, Step, pc=0100; F=10; bytes DA 00 02: pc=0002. -/
theorem test_vector_C_4 :
    stepGives (poke { (coreAt .full .be) with f := 0x10 } [(0x0100, 0xDA), (0x0101, 0x00), (0x0102, 0x02)])
      (fun s => { s with pc := 0x0002 }) = true := by decide

/-- V-C-5: FULL, Step, pc=0100; HL=4000; bytes E9: pc=4000. -/
theorem test_vector_C_5 :
    stepGives (poke { (coreAt .full .be) with h := 0x40, l := 0x00 } [(0x0100, 0xE9)])
      (fun s => { s with pc := 0x4000 }) = true := by decide

/-- V-C-9: FULL, Step, pc=FFFE; -; bytes 18 01: pc=0001; target wraps. -/
theorem test_vector_C_9 :
    stepGives (poke { (coreAt .full .be) with pc := 0xFFFE } [(0xFFFE, 0x18), (0xFFFF, 0x01)])
      (fun s => { s with pc := 0x0001 }) = true := by decide

/-- V-C-11: FULL, Step, pc=0100; F=00; bytes 30 F0: pc=00F2. -/
theorem test_vector_C_11 :
    stepGives (poke { (coreAt .full .be) with f := 0x00 } [(0x0100, 0x30), (0x0101, 0xF0)])
      (fun s => { s with pc := 0x00F2 }) = true := by decide

/-- V-C-13: FULL/LE, Step, pc=0100; sp=FFFE; bytes CD 02 00: sp=FFFC, pc=0002, mem[FFFC]=03, mem[FFFD]=01; nn is LE, the push is not. -/
theorem test_vector_C_13 :
    stepGives (poke { (coreAt .full .le) with sp := 0xFFFE } [(0x0100, 0xCD), (0x0101, 0x02), (0x0102, 0x00)])
      (fun s => poke { s with sp := 0xFFFC, pc := 0x0002 } [(0xFFFC, 0x03), (0xFFFD, 0x01)]) = true := by decide

/-- V-C-14: FULL, Step, pc=0100; sp=FFFE, F=10; bytes D4 02 00: pc=0103; not taken: no push. -/
theorem test_vector_C_14 :
    stepGives (poke { (coreAt .full .be) with sp := 0xFFFE, f := 0x10 } [(0x0100, 0xD4), (0x0101, 0x02), (0x0102, 0x00)])
      (fun s => { s with pc := 0x0103 }) = true := by decide

/-- V-C-17: FULL, Step, pc=0100; sp=FFFC, F=80, mem[FFFC]=03, mem[FFFD]=01; bytes C8: sp=FFFE, pc=0103. -/
theorem test_vector_C_17 :
    stepGives (poke { (coreAt .full .be) with sp := 0xFFFC, f := 0x80 } [(0xFFFC, 0x03), (0xFFFD, 0x01), (0x0100, 0xC8)])
      (fun s => { s with sp := 0xFFFE, pc := 0x0103 }) = true := by decide

/-- V-C-18: FULL, Step, pc=0100; sp=FFFC, mem[FFFC]=05, mem[FFFD]=01; bytes D9: sp=FFFE, pc=0105, IME=1; IME at once. -/
theorem test_vector_C_18 :
    stepGives (poke { (coreAt .full .be) with sp := 0xFFFC } [(0xFFFC, 0x05), (0xFFFD, 0x01), (0x0100, 0xD9)])
      (fun s => { s with sp := 0xFFFE, pc := 0x0105, ime := true }) = true := by decide

/-- V-C-19: FULL, Step, pc=0100; sp=FFFE; bytes FF: sp=FFFC, pc=0038, mem[FFFC]=01, mem[FFFD]=01. -/
theorem test_vector_C_19 :
    stepGives (poke { (coreAt .full .be) with sp := 0xFFFE } [(0x0100, 0xFF)])
      (fun s => poke { s with sp := 0xFFFC, pc := 0x0038 } [(0xFFFC, 0x01), (0xFFFD, 0x01)]) = true := by decide

/-- V-S-2: DOC, Step, pc=0100; -; bytes 00: Stopped, last_error=(2, 0x00, 0x0100). -/
theorem test_vector_S_2 :
    stepGives (poke (coreAt .doc .be) [(0x0100, 0x00)])
      (fun s => { s with runState := .stopped, lastError := some ⟨.unimplemented, 0x00, 0x0100⟩ }) = true := by decide

/-- V-S-5: FULL, Step, pc=0100; Halted, A=01, irq=0; bytes 3C: A=02, pc=0101, Running; wake with IME = 0: the INC at pc runs in the same step. -/
theorem test_vector_S_5 :
    stepGives (poke { (coreAt .full .be) with runState := .halted, a := 0x01, inputs := [⟨some 0, false⟩] } [(0x0100, 0x3C)])
      (fun s => { s with a := 0x02, pc := 0x0101, runState := .running }) = true := by decide

/-- V-S-6: FULL, Step, pc=0100; Halted, IME=1, sp=FFFE, irq=2; bytes 3C: sp=FFFC, pc=0050, IME=0, Running, mem[FFFD]=01; wake and entry, nothing executed. -/
theorem test_vector_S_6 :
    stepGives (poke { (coreAt .full .be) with runState := .halted, ime := true, sp := 0xFFFE, inputs := [⟨some 2, false⟩] } [(0x0100, 0x3C)])
      (fun s => poke { s with sp := 0xFFFC, pc := 0x0050, ime := false, runState := .running, irqAck := some 2 } [(0xFFFD, 0x01)]) = true := by decide

/-- V-S-7: FULL, Step, pc=0100; irq=0; bytes 76: pc=0101, halt_bug=1; IME = 0 with a request: halt bug, stays Running. -/
theorem test_vector_S_7 :
    stepGives (poke { (coreAt .full .be) with inputs := [⟨some 0, false⟩] } [(0x0100, 0x76)])
      (fun s => { s with pc := 0x0101, haltBug := true }) = true := by decide

/-- V-S-8: FULL, Step, pc=0100; -; bytes 10 00: pc=0102, Stopped. -/
theorem test_vector_S_8 :
    stepGives (poke (coreAt .full .be) [(0x0100, 0x10), (0x0101, 0x00)])
      (fun s => { s with pc := 0x0102, runState := .stopped }) = true := by decide

/-- V-S-11: DOC, Step, pc=0150; -; bytes FD: Stopped, last_error=(1, 0xFD, 0x0150). -/
theorem test_vector_S_11 :
    stepGives (poke { (coreAt .doc .be) with pc := 0x0150 } [(0x0150, 0xFD)])
      (fun s => { s with runState := .stopped, lastError := some ⟨.decodeFailure, 0xFD, 0x0150⟩ }) = true := by decide

/-- V-S-12: FULL, Execute(0xDD), pc=0200; -: Stopped, last_error=(1, 0xDD, 0x0200). -/
theorem test_vector_S_12 :
    executeGives 0xDD (poke { (coreAt .full .be) with pc := 0x0200 } [])
      (fun s => { s with runState := .stopped, lastError := some ⟨.decodeFailure, 0xDD, 0x0200⟩ })
      (some ⟨.decodeFailure, 0xDD, 0x0200⟩) = true := by decide

/-- V-S-14: FULL, Step, pc=0100; irq=0; bytes FB: pc=0101, ime_pending=1; no entry yet: IME still 0 at this boundary. -/
theorem test_vector_S_14 :
    stepGives (poke { (coreAt .full .be) with inputs := [⟨some 0, false⟩] } [(0x0100, 0xFB)])
      (fun s => { s with pc := 0x0101, imePending := true }) = true := by decide

/-- V-S-15: FULL, Step, pc=0100; ime_pending=1; bytes F3: pc=0101, ime_pending=0; EI then DI: IME set by this step, cleared by DI. -/
theorem test_vector_S_15 :
    stepGives (poke { (coreAt .full .be) with imePending := true } [(0x0100, 0xF3)])
      (fun s => { s with pc := 0x0101, imePending := false }) = true := by decide

/-- V-S-17: FULL, Step, pc=0100; IME=1, ime_pending=1, sp=D000, irq=0; bytes 00: sp=CFFE, pc=0040, IME=0, ime_pending=0, mem[CFFF]=01; entry clears ime_pending. -/
theorem test_vector_S_17 :
    stepGives (poke { (coreAt .full .be) with ime := true, imePending := true, sp := 0xD000, inputs := [⟨some 0, false⟩] } [(0x0100, 0x00)])
      (fun s => poke { s with sp := 0xCFFE, pc := 0x0040, ime := false, imePending := false, irqAck := some 0 } [(0xCFFF, 0x01)]) = true := by decide

/-- V-S-18: FULL, Step, pc=0100; A=11, stop=1; bytes 3C: Stopped; stop input: nothing executed. -/
theorem test_vector_S_18 :
    stepGives (poke { (coreAt .full .be) with a := 0x11, inputs := [⟨none, true⟩] } [(0x0100, 0x3C)])
      (fun s => { s with runState := .stopped }) = true := by decide

/-- V-S-19: FULL, Step, pc=0100; Stopped, last_error=(1, 0xD3, 0x0100); bytes 00: no change; Step does nothing. -/
theorem test_vector_S_19 :
    stepGives (poke { (coreAt .full .be) with runState := .stopped, lastError := some ⟨.decodeFailure, 0xD3, 0x0100⟩ } [(0x0100, 0x00)])
      (fun s => s) = true := by decide

/-- V-S-20: FULL, Execute(0x00), pc=0100; Stopped: returns NotRunning. -/
theorem test_vector_S_20 :
    answersNotRunning (hostExecute (poke { (coreAt .full .be) with runState := .stopped } []) 0x00) = true := by decide

/-- V-S-11 as the host calls it (60_exceptions.md R705): Step returns the error in the step that raises it. -/
theorem test_hostStep_returns_error :
    hostStepGives (poke { (coreAt .doc .be) with pc := 0x0150 } [(0x0150, 0xFD)])
      (fun s => { s with runState := .stopped, lastError := some ⟨.decodeFailure, 0xFD, 0x0150⟩ })
      (some ⟨.decodeFailure, 0xFD, 0x0150⟩) = true := by decide

/-- V-S-19 as the host calls it: a Stopped core keeps its last_error, and Step returns no error. -/
theorem test_hostStep_stopped_returns_none :
    hostStepGives { (coreAt .full .be) with runState := .stopped, lastError := some ⟨.decodeFailure, 0xD3, 0x0100⟩ } (fun s => s)
      none = true := by decide

/-- Under DOC, Execute of SUB B returns Unimplemented (R130, R141, R705). -/
theorem test_hostExecute_returns_unimplemented :
    executeGives 0x90 (coreAt .doc .be) (fun s => { s with runState := .stopped, lastError := some ⟨.unimplemented, 0x90, 0x0100⟩ })
      (some ⟨.unimplemented, 0x90, 0x0100⟩) = true := by decide

/-- Run of INC A; STOP returns no error, and of a hole its record (R142); one step is not enough for the first. -/
theorem test_hostRun_returns_lastError :
    (hostRun quietDraws 2 (poke (coreAt .full .be) [(0x0100, 0x3C), (0x0101, 0x10)])).map (·.error) = some none ∧
    (hostRun quietDraws 1 (poke (coreAt .full .be) [(0x0100, 0xD3)])).map (·.error) = some (some ⟨.decodeFailure, 0xD3, 0x0100⟩) ∧
    hostRun quietDraws 1 (poke (coreAt .full .be) [(0x0100, 0x3C), (0x0101, 0x10)]) = none := by decide

/-- RETI at 0x0040, IME set and request 0 at every boundary: the core before its interrupt entry. -/
def reentering (boundaries : Nat) : State :=
  { (coreAt .full .be) with ime := true, sp := 0x0020, irqNow := some 0, inputs := [], boundaries := boundaries,
                            mem := [(0x001F, 0x01), (0x0040, 0xD9)] }

/-- The same core in its handler, before RETI. -/
def inHandler (boundaries : Nat) : State :=
  { (reentering boundaries) with ime := false, sp := 0x001E, pc := 0x0040, irqAck := some 0 }

/-- The entry of request 0 pushes pc = 0x0100 and goes to 0x0040 (60_exceptions.md R714). -/
theorem test_reentering_enters (n : Nat) : step ((reentering n).withDraw ⟨some 0, false⟩) = .next (inHandler (n + 1)) := by
  have h : boundaryEvent ((reentering n).withDraw ⟨some 0, false⟩) =
      .ended (((reentering n).withDraw ⟨some 0, false⟩).sample.interruptEntry 0) := rfl
  rw [step_of_ended h]
  have hm : memWrite (memWrite [(0x001F, 0x01), (0x0040, 0xD9)] 0x001F 0x01) 0x001E 0x00 = [(0x001F, 0x01), (0x0040, 0xD9)] := by decide
  simpa [State.interruptEntry, State.push16, State.writeByte, interruptVector, inHandler, reentering, coreAt, State.resetWith, hi8,
    lo8] using hm

/-- RETI pops 0x0100 and sets IME (46_control.md R559). -/
theorem test_inHandler_returns (n : Nat) : step ((inHandler n).withDraw ⟨some 0, false⟩) = .next (reentering (n + 1)) := by
  have h : boundaryEvent ((inHandler n).withDraw ⟨some 0, false⟩) = .fetch ((inHandler n).withDraw ⟨some 0, false⟩).sample := rfl
  have hd : ((inHandler n).withDraw ⟨some 0, false⟩).sample.decodeFetched = .instr .reti := by
    show decode .full .be (memRead [(0x001F, 0x01), (0x0040, 0xD9)] 0x40)
      (memRead [(0x001F, 0x01), (0x0040, 0xD9)] 0x41) (memRead [(0x001F, 0x01), (0x0040, 0xD9)] 0x42) = _
    decide
  rw [step_of_fetch h, hd]
  have ht : joinBytes (memRead [(0x001F, 0x01), (0x0040, 0xD9)] 0x001F)
      (memRead [(0x001F, 0x01), (0x0040, 0xD9)] 0x001E) = 0x0100 := by decide
  show Host.Outcome.next { (reentering (n + 1)) with
    pc := joinBytes (memRead [(0x001F, 0x01), (0x0040, 0xD9)] 0x001F) (memRead [(0x001F, 0x01), (0x0040, 0xD9)] 0x001E) } = _
  rw [ht]; rfl

/-- A run that endless requests keep from ending: each RETI is followed by the next entry (30_encoding.md R147). -/
theorem test_endless_requests_hang : RunHangs (fun _ => ⟨some 0, false⟩) (reentering 0) := by
  suffices h : ∀ fuel n, hostRun (fun _ => ⟨some 0, false⟩) fuel (reentering n) = none ∧
      hostRun (fun _ => ⟨some 0, false⟩) fuel (inHandler n) = none from fun fuel => (h fuel 0).1
  intro fuel
  induction fuel with
  | zero => exact fun n => ⟨rfl, rfl⟩
  | succ fuel ih =>
    exact fun n => ⟨(hostRun_succ (s := reentering n) (fun h => nomatch h) (test_reentering_enters n) fuel).trans (ih (n + 1)).2,
      (hostRun_succ (s := inHandler n) (fun h => nomatch h) (test_inHandler_returns n) fuel).trans (ih (n + 1)).1⟩

/-- V-S-22: FULL, Step, pc=0100; IME=1, Halted, sp=FFFE, irq=0, stop=1; bytes 00: Stopped; stop is examined before wake and entry. -/
theorem test_vector_S_22 :
    stepGives (poke { (coreAt .full .be) with ime := true, runState := .halted, sp := 0xFFFE, inputs := [⟨some 0, true⟩] } [(0x0100, 0x00)])
      (fun s => { s with runState := .stopped }) = true := by decide

/-- P4 of part L3, step 2: after the halt bug the opcode 0x3E is read twice, and its immediate is 0x3E. -/
theorem test_program_P4_step2 :
    stepGives (poke { (coreAt .full .be) with pc := 0x0101, haltBug := true, inputs := [⟨some 0, false⟩] }
        [(0x0100, 0x76), (0x0101, 0x3E), (0x0102, 0x14), (0x0103, 0x10)])
      (fun s => { s with a := 0x3E, pc := 0x0102, haltBug := false }) = true := by decide

/-- L1.3, scenario 3: 0x45 + 0xF4 = 0x39 with Carry only. -/
theorem test_scenario_3 :
    stepGives (poke { (coreAt .full .be) with a := 0x45, c := 0xF4 } [(0x0100, 0x81)])
      (fun s => { s with a := 0x39, f := 0x10, pc := 0x0101 }) = true := by decide

/-- L1.7: a word is read and written in WORD_ORDER (20_memory.md R84, R85). -/
theorem test_words :
    (State.reset.writeWord 0xC000 0xABCD).readByte 0xC000 = 0xAB ∧ (State.reset.writeWord 0xC000 0xABCD).readWord 0xC000 = 0xABCD ∧
    ((State.resetWith ⟨.full, .le⟩).writeWord 0xFFFF 0xABCD).readByte 0x0000 = 0xAB := by decide

/-- Writing the byte that an unlisted address reads as removes the entry. -/
theorem test_write_zero_unlists : ((State.reset.writeByte 0xC000 0x12).writeByte 0xC000 0x00).mem = [] := by decide

/-! ## Witnesses: states and operands that meet the hypotheses of each obligation that has some -/

theorem witness_ResetGivesTableValues : ∃ (p : Params) (s : State), s.params = p ∧ s.a = 0x12 :=
  ⟨Params.standard, { State.reset with a := 0x12 }, rfl, rfl⟩

/-- Also a state that meets the invariant with an error recorded, and one with the halt bug pending. -/
theorem witness_StepKeepsInvariant :
    (∃ s t : State, s.Inv ∧ step s = .next t) ∧ (∃ s : State, s.Inv ∧ s.lastError ≠ none) ∧ ∃ s : State, s.Inv ∧ s.haltBug = true :=
  ⟨⟨quietReset, _, ⟨by decide, by decide, by decide, by decide, by decide, by simp [quietReset, State.reset, State.resetWith]⟩, rfl⟩,
    ⟨{ State.reset with lastError := some ⟨.decodeFailure, 0xD3, 0⟩, runState := .stopped },
      ⟨by decide, by decide, by decide, by decide, by decide, by simp⟩, by decide⟩,
    ⟨{ State.reset with haltBug := true },
      ⟨by decide, by decide, by decide, by decide, by decide, by simp [State.reset, State.resetWith]⟩, by decide⟩⟩

/-- A step that fetches: an instruction, the same after the halt bug, and a hole. -/
theorem witness_StepRunsDecodedInstruction :
    (∃ (s : State) (i : Instr), s.WillFetch ∧ s.haltBug = false ∧ i.wellFormed s.params.profile = true ∧ i.isHole = false ∧
      decode s.params.profile s.params.wordOrder (s.readByte s.pc) (s.readByte (s.pc + 1)) (s.readByte (s.pc + 1 + 1)) = .instr i) ∧
    (∃ (s : State) (i : Instr), s.WillFetch ∧ s.haltBug = true ∧ i.wellFormed s.params.profile = true ∧ i.isHole = false ∧
      decode s.params.profile s.params.wordOrder (s.readByte s.pc) (s.readByte s.pc) (s.readByte (s.pc + 1)) = .instr i) ∧
    ∃ (s : State) (i : Instr), s.WillFetch ∧ s.haltBug = false ∧ i.wellFormed s.params.profile = true ∧ i.isHole = true ∧
      decode s.params.profile s.params.wordOrder (s.readByte s.pc) (s.readByte (s.pc + 1)) (s.readByte (s.pc + 1 + 1)) = .instr i :=
  ⟨⟨quietReset, .nop, ⟨rfl, rfl, .inl rfl⟩, by decide, by decide, by decide, by decide⟩,
    ⟨poke { (coreAt .full .be) with haltBug := true } [(0x0100, 0x3E)], .ldAD8 0x3E, ⟨rfl, rfl, .inl rfl⟩, by decide, by decide,
      by decide, by decide⟩,
    ⟨poke (coreAt .doc .be) [(0x0100, 0xFD)], .holeFD, ⟨rfl, rfl, .inl rfl⟩, by decide, by decide, by decide, by decide⟩⟩

theorem witness_DecodeOfEncode : Instr.wellFormed .full (.callA16 0xFFFF) = true ∧ Instr.wellFormed .doc (.ldSpD16 0x1234) = true := by
  decide

/-- And a run whose coming draw the state fixes, and one where it is free. -/
theorem witness_StepSpendsOneDraw : (∃ s t : State, step s = .next t ∧ s.nextDraw.irq = some 4) ∧
    (∃ s t : State, Host.Core.run Sys2Proof.core 1 s = .next t ∧ s.inputs[1]? = some ⟨some 2, false⟩) ∧
    ∃ s t : State, Host.Core.run Sys2Proof.core 1 s = .next t ∧ s.inputs[1]? = none :=
  ⟨⟨{ State.reset with inputs := [⟨some 4, false⟩] }, _, rfl, rfl⟩,
    ⟨{ State.reset with inputs := [.quiet, ⟨some 2, false⟩] }, _, rfl, rfl⟩, ⟨quietReset, _, rfl, rfl⟩⟩

/-- DI changes IME, RETI changes IME and EI changes ime_pending. -/
theorem witness_OnlyDiEiRetiWriteIme :
    (∃ s t : State, exec .di s = .next t ∧ t.ime ≠ s.ime) ∧ (∃ s t : State, exec .reti s = .next t ∧ t.ime ≠ s.ime) ∧
    ∃ s t : State, exec .ei s = .next t ∧ t.imePending ≠ s.imePending :=
  ⟨⟨{ State.reset with ime := true }, _, rfl, by decide⟩, ⟨State.reset, _, rfl, by decide⟩, ⟨State.reset, _, rfl, by decide⟩⟩

/-- Every case of the run-state rule: Stopped, the stop input, an idle Halted step, an interrupt entry. -/
theorem witness_RunStateTransitions_boundary :
    (∃ s t : State, step s = .next t ∧ s.runState = .stopped) ∧
    (∃ s t : State, step s = .next t ∧ s.runState = .halted ∧ s.nextDraw.stop = true) ∧
    (∃ s t : State, step s = .next t ∧ s.runState = .halted ∧ s.nextDraw = ⟨none, false⟩) ∧
    ∃ s t : State, step s = .next t ∧ s.runState = .halted ∧ s.ime = true ∧ s.nextDraw = ⟨some 2, false⟩ :=
  ⟨⟨{ State.reset with runState := .stopped }, _, rfl, rfl⟩,
    ⟨{ State.reset with runState := .halted, inputs := [⟨none, true⟩] }, _, rfl, rfl, rfl⟩,
    ⟨{ quietReset with runState := .halted }, _, rfl, rfl, rfl⟩,
    ⟨{ State.reset with runState := .halted, ime := true, inputs := [⟨some 2, false⟩] }, _, rfl, rfl, rfl, rfl⟩⟩

/-- The cases of the run-state rule that depend on the fetched instruction: Unimplemented, HALT, a hole, STOP, any other. -/
theorem witness_RunStateTransitions_fetch :
    (coreAt .doc .be).decodeFetched = .unimplemented 0x00 ∧
    (poke (coreAt .full .be) [(0x0100, 0x76)]).decodeFetched = .instr .halt ∧
    (poke (coreAt .full .be) [(0x0100, 0xED)]).decodeFetched = .instr .holeED ∧
    (poke (coreAt .full .be) [(0x0100, 0x10)]).decodeFetched = .instr (.stop 0x00) ∧
    (coreAt .full .be).decodeFetched = .instr .nop := by decide

theorem witness_OnlyListedFormsWriteF : ∃ s t : State, exec .scf s = .next t ∧ t.f ≠ s.f := ⟨State.reset, _, rfl, by decide⟩

theorem witness_OnlyListedFormsWriteMemory :
    ∃ (s t : State) (addr : Word), exec (.ldAtHlD8 0x12) s = .next t ∧ t.readByte addr ≠ s.readByte addr :=
  ⟨State.reset, _, 0x0000, rfl, by decide⟩

theorem witness_StopInputStopsCore : ∃ s : State, s.runState ≠ .stopped ∧ s.nextDraw.stop = true :=
  ⟨{ State.reset with inputs := [⟨some 0, true⟩] }, by decide, rfl⟩

theorem witness_HaltedCoreIdles : ∃ (s : State) (draws : Nat → BoundaryDraw), s.runState = .halted ∧ s.nextDraw = ⟨none, false⟩ ∧
    ∀ n, draws n = ⟨none, false⟩ :=
  ⟨{ quietReset with runState := .halted }, quietDraws, rfl, rfl, fun _ => rfl⟩

theorem witness_HaltedCoreWakes :
    ∃ s : State, s.runState = .halted ∧ s.nextDraw.stop = false ∧ s.nextDraw.irq ≠ none :=
  ⟨{ State.reset with runState := .halted, inputs := [⟨some 0, false⟩] }, rfl, rfl, by decide⟩

/-- The first and the last index. -/
theorem witness_InterruptEntryEffect :
    (∃ s : State, s.runState = .running ∧ s.ime = true ∧ s.nextDraw = ⟨some 0, false⟩) ∧
    ∃ s : State, s.runState = .running ∧ s.ime = true ∧ s.nextDraw = ⟨some 4, false⟩ :=
  ⟨⟨{ State.reset with ime := true, inputs := [⟨some 0, false⟩] }, rfl, rfl, rfl⟩,
    ⟨{ State.reset with ime := true, inputs := [⟨some 4, false⟩] }, rfl, rfl, rfl⟩⟩

theorem witness_StoppedCoreWaitsForResume : (∃ s : State, s.runState = .stopped) ∧ ∃ s : State, s.runState ≠ .stopped :=
  ⟨⟨{ State.reset with runState := .stopped }, rfl⟩, ⟨State.reset, by decide⟩⟩

/-- A base row and the byte 0xCB. -/
theorem witness_UnimplementedStopsDocCore :
    (∃ s : State, s.WillFetch ∧ s.params.profile = .doc ∧
      decodeBase s.params.wordOrder (s.readByte s.pc) 0 0 = .subB ∧ Instr.inDoc .subB = false ∧ Instr.isHole .subB = false) ∧
    ∃ s : State, s.WillFetch ∧ s.params.profile = .doc ∧
      decodeBase s.params.wordOrder (s.readByte s.pc) 0 0 = .prefixCb ∧ Instr.inDoc .prefixCb = false ∧
      Instr.isHole .prefixCb = false :=
  ⟨⟨poke (coreAt .doc .be) [(0x0100, 0x90)], ⟨rfl, rfl, .inl rfl⟩, by decide, by decide, by decide, by decide⟩,
    ⟨poke (coreAt .doc .le) [(0x0100, 0xCB)], ⟨rfl, rfl, .inl rfl⟩, by decide, by decide, by decide, by decide⟩⟩

theorem witness_HolesRaiseDecodeFailure : Instr.isHole .holeD3 = true ∧ Instr.isHole .holeFD = true := by decide

/-- Outside Running, an instruction, a hole, and an opcode outside DOC. -/
theorem witness_ExecuteRunsSuppliedOpcode :
    (∃ s : State, s.runState ≠ .running) ∧
    (∃ s : State, s.runState = .running ∧
      decode s.params.profile s.params.wordOrder 0x06 (s.readByte s.pc) (s.readByte (s.pc + 1)) = .instr (.ldBD8 0x00)) ∧
    (∃ s : State, s.runState = .running ∧
      decode s.params.profile s.params.wordOrder 0xDD (s.readByte s.pc) (s.readByte (s.pc + 1)) = .instr .holeDD) ∧
    ∃ s : State, s.runState = .running ∧
      decode s.params.profile s.params.wordOrder 0x90 (s.readByte s.pc) (s.readByte (s.pc + 1)) = .unimplemented 0x90 :=
  ⟨⟨{ State.reset with runState := .halted }, by decide⟩, ⟨State.reset, by decide, by decide⟩, ⟨State.reset, by decide, by decide⟩,
    ⟨coreAt .doc .be, by decide, by decide⟩⟩

/-- Rows of length 1, 2 and 3. -/
theorem witness_PcAdvancesByLength : ∀ i ∈ ([.nop, .bit7H, .ldAtA16Sp 0xFFFF] : List Instr),
    i.isComplete = true ∧ i.isHole = false ∧ transfersControl i = false ∧ ∃ s t : State, exec i s = .next t := by
  intro i hi
  simp only [List.mem_cons, List.not_mem_nil, or_false] at hi
  rcases hi with rfl | rfl | rfl <;> exact ⟨by decide, by decide, by decide, State.reset, _, rfl⟩

/-- The immediate spans 0xFFFF and 0x0000. -/
theorem witness_LoadPairImmediate : ∃ s : State, s.runState = .running ∧ s.pc = 0xFFFF :=
  ⟨{ State.reset with pc := 0xFFFF }, rfl, rfl⟩

theorem witness_PushThenPopRestores : ∃ s : State, s.runState = .running ∧ s.sp = 0x0001 :=
  ⟨{ State.reset with sp := 0x0001 }, rfl, rfl⟩

/-- F against another cell. -/
theorem witness_RegisterPortReadsBack : ∃ code other : Fin 8, code.val = 6 ∧ other ≠ code := ⟨6, 0, rfl, by decide⟩

theorem witness_CanonicalMemoriesAreEqual :
    ∃ m n : List Host.Cell, Memory.wf m ∧ Memory.wf n ∧ (∀ addr : Word, memRead m addr.toNat = memRead n addr.toNat) ∧ m ≠ [] :=
  ⟨[(0, 0x01), (65535, 0xFF)], [(0, 0x01), (65535, 0xFF)], by decide, by decide, fun _ => rfl, by decide⟩

theorem witness_EiTakesEffectOneInstructionLater :
    ∃ s : State, s.WillFetch ∧ s.ime = false ∧ s.imePending = false ∧ s.decodeFetched = .instr .ei ∧ s.nextDraw.irq = some 0 :=
  ⟨poke { (coreAt .full .be) with inputs := [⟨some 0, false⟩] } [(0x0100, 0xFB)], ⟨rfl, rfl, .inl rfl⟩, by decide, by decide,
    by decide, by decide⟩

/-- LD rr,nn, INC rr and DEC rr with and without sp as the destination. -/
theorem witness_pairs_with_and_without_sp : (∃ p : Pair, p ≠ .sp) ∧ ∃ p : Pair, p = .sp := ⟨⟨.hl, by decide⟩, ⟨.sp, rfl⟩⟩

theorem witness_SubtractFromA :
    (∃ op : AluOp, op = .sub ∨ op = .sbc ∨ op = .cp) ∧ ∃ s : State, s.cf = true :=
  ⟨⟨.sbc, .inr (.inl rfl)⟩, ⟨{ State.reset with f := 0x10 }, rfl⟩⟩

theorem witness_LogicOnA : ∃ op : AluOp, op = .and ∨ op = .xor ∨ op = .or := ⟨.and, .inl rfl⟩

/-- DAA after an addition and after a subtraction. -/
theorem witness_DecimalAdjust : (∃ s : State, s.nf = false) ∧ ∃ s : State, s.nf = true :=
  ⟨⟨State.reset, rfl⟩, ⟨{ State.reset with f := 0x40 }, rfl⟩⟩

/-- A condition that holds and one that does not. -/
theorem witness_CallsAndRestarts : (∃ s : State, s.cond .nz = true) ∧ ∃ s : State, s.cond .z = false :=
  ⟨⟨State.reset, rfl⟩, ⟨State.reset, rfl⟩⟩

/-- The halt bug, a halt under FULL, and a halt under DOC with a request present. -/
theorem witness_HaltOrHaltBug :
    (∃ s : State, s.params.profile = .full ∧ s.ime = false ∧ s.irqNow ≠ none) ∧
    (∃ s : State, ¬(s.params.profile = .full ∧ s.ime = false ∧ s.irqNow ≠ none) ∧ s.params.profile = .full) ∧
    ∃ s : State, ¬(s.params.profile = .full ∧ s.ime = false ∧ s.irqNow ≠ none) ∧ s.irqNow ≠ none :=
  ⟨⟨{ State.reset with irqNow := some 0 }, by decide, by decide, by decide⟩, ⟨State.reset, by decide, by decide⟩,
    ⟨{ (coreAt .doc .be) with irqNow := some 0 }, by decide, by decide⟩⟩

end Sys2Proof.Tests
end

section
/-! The state after reset (10_state.md R48, 70_reset_and_hazards.md R800): what its registers and its memory read as, and what the
host's reset entry point keeps of the state it is called in. -/

namespace Sys2Proof.Machine

@[simp] theorem State.resetWith_reg (p : Params) (r : Reg8) : (State.resetWith p).reg r = 0x00 := by
  cases r <;> rfl

@[simp] theorem State.resetWith_readByte (p : Params) (addr : Word) : (State.resetWith p).readByte addr = 0x00 := rfl

/-- The host's reset differs from construction in the draws alone, which it keeps. -/
theorem hostReset_with_draws_of_reset {p : Params} {s : State} (h : s.params = p) :
    { hostReset s with inputs := (State.resetWith p).inputs, boundaries := (State.resetWith p).boundaries } =
      State.resetWith p := by
  subst h
  rfl

/-- Settles O1: registers and memory by what they read as after reset, each other piece by the field that reset gives it. -/
theorem resetGivesTableValues : Obligations.ResetGivesTableValues := by
  intro p
  exact ⟨State.resetWith_reg p, rfl, rfl, rfl, State.resetWith_readByte p, rfl, rfl, rfl, rfl, rfl,
    fun _ => hostReset_with_draws_of_reset⟩

end Sys2Proof.Machine
end

section
/-! Words in memory (20_memory.md R84, R85): the two bytes a word write leaves, which never share an address, wrap at 0xFFFF included. -/

namespace Sys2Proof.Machine

/-- The byte at addr after `MemWriteWord`: the second store, at addr + 1, does not reach it, because adding 1 modulo 65536 moves every
address. -/
theorem State.readByte_writeWord_first (s : State) (addr v : Word) :
    (s.writeWord addr v).readByte addr = firstByte s.params.wordOrder v := by
  have hne : addr ≠ addr + 1 := by bv_omega
  rw [State.readByte_writeWord, if_neg hne, if_pos rfl]

/-- The byte at addr + 1 after `MemWriteWord`. -/
theorem State.readByte_writeWord_second (s : State) (addr v : Word) :
    (s.writeWord addr v).readByte (addr + 1) = secondByte s.params.wordOrder v := by
  rw [State.readByte_writeWord, if_pos rfl]

/-- Settles O26: the bytes by the two lemmas above, their order by the case of WORD_ORDER, the rest of memory by the frame of a
word write. -/
theorem wordPrimitives : Obligations.WordPrimitives := by
  intro s addr v
  refine ⟨?read, ?first, ?second, sameMemoryBut_writeWord s addr v, _, rfl⟩
  case read =>
    rw [State.readWord]
    cases s.params.wordOrder <;> rfl
  case first =>
    rw [State.readByte_writeWord_first]
    cases s.params.wordOrder <;> rfl
  case second =>
    rw [State.readByte_writeWord_second]
    cases s.params.wordOrder <;> rfl

end Sys2Proof.Machine
end

section
/-! The draws of a run (60_exceptions.md R711, R712; 30_encoding.md R147): no instruction touches them, a step spends the draw of its
own boundary and no other, and so every boundary of a run has the draw of its own number. -/

namespace Sys2Proof.Machine

/-- What the boundary samples and spends, with the parameters of the run. -/
structure Sampled where
  params     : Params
  irqNow     : IrqRequest
  inputs     : List BoundaryDraw
  boundaries : Nat

/-- The part of a state that no instruction writes. -/
def State.sampled (s : State) : Sampled := ⟨s.params, s.irqNow, s.inputs, s.boundaries⟩

/-! ## Instructions -/

theorem State.setReg_sampled (s : State) (r : Reg8) (v : Byte) : (s.setReg r v).sampled = s.sampled := by
  cases r <;> rfl

theorem State.setPair_sampled (s : State) (p : Pair) (v : Word) : (s.setPair p v).sampled = s.sampled := by
  cases p <;> rfl

theorem State.setStackPair_sampled (s : State) (p : StackPair) (v : Word) : (s.setStackPair p v).sampled = s.sampled := by
  cases p <;> rfl

theorem State.setOperand_sampled (s : State) (o : Operand8) (v : Byte) : (s.setOperand o v).sampled = s.sampled := by
  cases o with
  | reg r => exact s.setReg_sampled r v
  | atHl => rfl

theorem aluApply_sampled (op : AluOp) (v : Byte) (s : State) : (aluApply op v s).sampled = s.sampled := by
  cases op <;> rfl

theorem callAbs_sampled (nn : Word) (s : State) : (callAbs nn s).sampled = s.sampled := by
  simp [callAbs, State.sampled]

/-- A row with two outcomes keeps what both of them keep. -/
theorem State.ite_sampled {s t u : State} {c : Prop} [Decidable c] (ht : t.sampled = s.sampled) (hu : u.sampled = s.sampled) :
    (if c then t else u).sampled = s.sampled := by
  split <;> assumption

theorem haltCore_sampled (s : State) : (haltCore s).sampled = s.sampled := by
  unfold haltCore
  split <;> rfl

theorem cbRow_sampled (c : Byte) (s : State) : (cbRow c s).sampled = s.sampled := by
  unfold cbRow
  split
  · exact (s.advance 1).setOperand_sampled _ _
  · rfl
  · exact (s.advance 1).setOperand_sampled _ _
  · exact (s.advance 1).setOperand_sampled _ _

/-- Every instruction completes and writes nothing of it: the forms with an operand by the write of that operand, a row with two
outcomes by each of them, any other by its fields. -/
theorem completes_sampled (i : Instr) (s : State) : Completes i s fun t => t.sampled = s.sampled := by
  cases i using Instr.byForm with
  | ldRegReg dst src => exact ⟨_, exec_ldRegReg dst src s, s.setReg_sampled dst _⟩
  | ldRegImm dst n => exact ⟨_, exec_ldRegImm dst n s, (s.advance 1).setReg_sampled dst n⟩
  | ldRegAtHl dst => exact ⟨_, exec_ldRegAtHl dst s, s.setReg_sampled dst _⟩
  | ldAtHlReg r => exact ⟨_, exec_ldAtHlReg r s, rfl⟩
  | ldPairImm p nn => exact ⟨_, exec_ldPairImm p nn s, (s.advance 2).setPair_sampled p nn⟩
  | incPair p => exact ⟨_, exec_incPair p s, s.setPair_sampled p _⟩
  | decPair p => exact ⟨_, exec_decPair p s, s.setPair_sampled p _⟩
  | addHlPair p => exact ⟨_, exec_addHlPair p s, rfl⟩
  | push p => exact ⟨_, exec_push p s, rfl⟩
  | pop p => exact ⟨_, exec_pop p s, s.pop16.2.setStackPair_sampled p _⟩
  | alu op o => exact ⟨_, exec_alu op o s, aluApply_sampled op _ s⟩
  | aluImm op n => exact ⟨_, exec_aluImm op n s, aluApply_sampled op n (s.advance 1)⟩
  | incOp o => exact ⟨_, exec_incOp o s, s.setOperand_sampled o _⟩
  | decOp o => exact ⟨_, exec_decOp o s, s.setOperand_sampled o _⟩
  | jrCond cc e => exact ⟨_, exec_jrCond cc e s, State.ite_sampled rfl rfl⟩
  | jpCond cc nn => exact ⟨_, exec_jpCond cc nn s, State.ite_sampled rfl rfl⟩
  | callCond cc nn => exact ⟨_, exec_callCond cc nn s, State.ite_sampled (callAbs_sampled nn s) rfl⟩
  | retCond cc => exact ⟨_, exec_retCond cc s, State.ite_sampled rfl rfl⟩
  | rst t => exact ⟨_, exec_rst t s, rfl⟩
  | rot op o => exact ⟨_, exec_rot op o s, (s.advance 1).setOperand_sampled o _⟩
  | bit b o => exact ⟨_, exec_bit b o s, rfl⟩
  | res b o => exact ⟨_, exec_res b o s, (s.advance 1).setOperand_sampled o _⟩
  | set b o => exact ⟨_, exec_set b o s, (s.advance 1).setOperand_sampled o _⟩
  | halt => exact ⟨_, exec_halt s, haltCore_sampled s⟩
  | prefixCb => exact ⟨_, exec_prefixCb s, cbRow_sampled _ s⟩
  | callA16 nn => exact ⟨_, exec_callA16 nn s, callAbs_sampled nn s⟩
  | hole i hi => exact ⟨_, exec_hole hi s, rfl⟩
  | _ => exact ⟨_, rfl, rfl⟩

theorem exec_sampled {i : Instr} {s t : State} (h : exec i s = .next t) : t.sampled = s.sampled := by
  obtain ⟨u, hu, hkeep⟩ := completes_sampled i s
  cases hu.symm.trans h
  exact hkeep

/-! ## Steps -/

theorem State.dispatchState_sampled (s : State) (i : Instr) : (s.dispatchState i).sampled = s.sampled :=
  State.ite_sampled rfl rfl

theorem dispatchDecoded_sampled {d : Decoded} {s t : State} (h : dispatchDecoded s d = .next t) : t.sampled = s.sampled := by
  cases d with
  | instr i => exact (exec_sampled h).trans (s.dispatchState_sampled i)
  | unimplemented byte =>
    cases h
    rfl

/-- A step does to the draws what the sampling at its boundary does, and no more. -/
theorem step_sampled {s t : State} (h : step s = .next t) : t.sampled = s.sample.sampled := by
  rcases step_cases s with ⟨_, e⟩ | ⟨_, _, e⟩ | ⟨_, _, _, e⟩ | ⟨k, _, _, _, _, e⟩ | ⟨_, _, _, _, e⟩ <;> rw [e] at h
  case inr.inr.inr.inr => exact dispatchDecoded_sampled (s := s.sample.setRunState .running) h
  all_goals
    cases h
    simp [State.sampled]

theorem step_draws {s t : State} (h : step s = .next t) :
    t.params = s.params ∧ t.inputs = s.inputs.tail ∧ t.boundaries = s.boundaries + 1 ∧ t.irqNow = s.nextDraw.irq := by
  obtain ⟨hparams, hirq, hinputs, hboundaries⟩ := Sampled.mk.inj (step_sampled h)
  exact ⟨hparams, hinputs, hboundaries, hirq⟩

/-! ## Runs -/

/-- A run of one step more that answers a next state, by its first step. -/
theorem run_succ_eq_next {M : Host.Core} {n : Nat} {s t : M.State} (h : M.run (n + 1) s = .next t) :
    ∃ u, M.step s = .next u ∧ M.run n u = .next t := by
  unfold Host.Core.run at h
  split at h
  case h_1 u hu => exact ⟨u, hu, h⟩
  all_goals cases h

/-- The draws that `n` steps leave: those the state fixed for the boundaries after them. -/
theorem run_draws {n : Nat} {s t : State} (h : Host.Core.run Sys2Proof.core n s = .next t) :
    t.inputs = s.inputs.drop n ∧ t.boundaries = s.boundaries + n := by
  induction n generalizing s with
  | zero =>
    cases h
    exact ⟨rfl, rfl⟩
  | succ n ih =>
    obtain ⟨u, hu, hrun⟩ := run_succ_eq_next h
    obtain ⟨-, hinputs, hboundaries, -⟩ := step_draws hu
    obtain ⟨hdrop, hcount⟩ := ih hrun
    rw [hdrop, hcount, hinputs, hboundaries, List.drop_tail]
    exact ⟨rfl, by omega⟩

/-- The draw of the coming boundary is the first that the state fixes, or the free draw of that boundary's number. -/
theorem State.nextDraw_eq_getD (s : State) : s.nextDraw = (s.inputs[0]?).getD (freeDraw s.boundaries) := by
  rw [State.nextDraw, List.headD_eq_head?_getD, List.head?_eq_getElem?]

/-- Settles O10: one step by what its boundary samples, a run by the draws that `n` steps leave. -/
theorem stepSpendsOneDraw : Obligations.StepSpendsOneDraw := by
  refine ⟨fun s t => step_draws, fun n s t h => ?_⟩
  obtain ⟨hinputs, hboundaries⟩ := run_draws h
  rw [State.nextDraw_eq_getD, hinputs, hboundaries, List.getElem?_drop, Nat.add_zero]
  rfl

end Sys2Proof.Machine
end

section
/-! The Halted core (60_exceptions.md R709): without a request and without the stop input it idles, step after step. -/

namespace Sys2Proof.Machine

/-- A Halted core whose boundary draws nothing does no more than sample its inputs. -/
theorem step_of_idle {s : State} (hhalted : s.runState = .halted) (hquiet : s.nextDraw = ⟨none, false⟩) :
    step s = .next s.sample :=
  step_of_ended (by simp [boundaryEvent, boundaryOf, hhalted, hquiet])

/-- While no boundary draws anything, Run of a Halted core returns within no number of steps. -/
theorem runHangs_of_halted {s : State} {draws : Nat → BoundaryDraw} (hhalted : s.runState = .halted)
    (hquiet : ∀ n, draws n = ⟨none, false⟩) : RunHangs draws s := by
  intro fuel
  induction fuel generalizing s draws with
  | zero => exact hostRun_zero (by simp [hhalted]) draws
  | succ fuel ih =>
    rw [hostRun_succ (by simp [hhalted]) (step_of_idle hhalted (hquiet 0))]
    exact ih hhalted fun n => hquiet (n + 1)

/-- Settles O16: the idle step with its sampled inputs written out, and the run by induction on the number of steps. -/
theorem haltedCoreIdles : Obligations.HaltedCoreIdles := by
  refine ⟨fun s hhalted hquiet => ?_, fun s draws => runHangs_of_halted⟩
  rw [step_of_idle hhalted hquiet, State.sample, hquiet]

end Sys2Proof.Machine
end

section
/-! Frames of the 8-bit loads (40_load8.md): a load moves pc past its immediates and then writes a register or a byte. What each of the
two steps leaves unchanged, how two steps compose, and what a whole handler of that shape does. -/

namespace Sys2Proof.Machine

/-! ## One state operation each -/

/-- The registers that two operations in a row leave alone are those that neither of them writes. -/
theorem SameRegsBut.trans {written later : List Reg8} {s t u : State} (h : SameRegsBut written s t) (k : SameRegsBut later t u) :
    SameRegsBut (written ++ later) s u := by
  intro r hr
  rw [List.mem_append, not_or] at hr
  exact (k r hr.2).trans (h r hr.1)

theorem sameRegsBut_jump (s : State) (target : Word) : SameRegsBut [] s (s.jump target) := fun r _ => s.jump_reg target r

theorem sameRegsBut_writeByte (s : State) (addr : Word) (v : Byte) : SameRegsBut [] s (s.writeByte addr v) :=
  fun r _ => s.writeByte_reg addr v r

theorem sameRegsBut_setHl (s : State) (v : Word) : SameRegsBut [.h, .l] s (s.setHl v) := by
  intro r hr
  cases r with
  | h => simp at hr
  | l => simp at hr
  | _ => rfl

theorem sameControl_setHl (s : State) (v : Word) : SameControl s (s.setHl v) := ⟨rfl, rfl, rfl, rfl, rfl, rfl, rfl, rfl, rfl, rfl⟩

/-- The byte at the address of a `MemWrite`. -/
@[simp] theorem State.readByte_writeByte_same (s : State) (addr : Word) (v : Byte) : (s.writeByte addr v).readByte addr = v := by
  rw [State.readByte_writeByte, if_pos rfl]

/-! ## A handler that writes one register or one byte

`s.jump pc` is the state with pc moved past the immediates; with `pc = s.pc` it is `s` itself. -/

/-- A handler that moves pc and writes one register. -/
theorem completes_of_setReg {i : Instr} {s : State} {r : Reg8} {v : Byte} {pc : Word}
    (hexec : exec i s = .next ((s.jump pc).setReg r v)) :
    Completes i s fun t =>
      t.reg r = v ∧ SameRegsBut [r] s t ∧ t.f = s.f ∧ t.sp = s.sp ∧ t.pc = pc ∧ SameControl s t ∧ SameMemory s t :=
  ⟨_, hexec, State.reg_setReg_same _ r v, (sameRegsBut_jump s pc).trans (sameRegsBut_setReg _ r v), State.setReg_f _ r v,
    State.setReg_sp _ r v, State.setReg_pc _ r v, (sameControl_jump s pc).trans (sameControl_setReg _ r v),
    sameMemory_of_mem (State.setReg_mem _ r v)⟩

/-- A handler that moves pc past `k` bytes and loads A: A is one of the registers. -/
theorem loadsA_of_exec {i : Instr} {s : State} {addr pc : Word} {k : Nat} (hexec : exec i s = .next (loadA addr (s.jump pc)))
    (hpc : pc = s.pc + BitVec.ofNat 16 k) : LoadsA i addr k s := by
  subst hpc
  exact completes_of_setReg (r := .a) hexec

/-- A handler that moves pc past `k` bytes and stores one byte. -/
theorem storesByte_of_exec {i : Instr} {s : State} {addr pc : Word} {v : Byte} {k : Nat}
    (hexec : exec i s = .next ((s.jump pc).writeByte addr v)) (hpc : pc = s.pc + BitVec.ofNat 16 k) : StoresByte i addr v k s :=
  ⟨_, hexec, State.readByte_writeByte_same _ addr v, sameMemoryBut_writeByte (s.jump pc) addr v,
    (sameRegsBut_jump s pc).trans (sameRegsBut_writeByte _ addr v), rfl, rfl, hpc,
    (sameControl_jump s pc).trans (sameControl_writeByte _ addr v)⟩

/-! ## A handler that moves A and then writes HL -/

/-- A handler that loads A from the old HL and puts `v` in HL. -/
theorem completes_of_loadA_setHl {i : Instr} {s : State} {v : Word} (hexec : exec i s = .next ((loadA s.hl s).setHl v)) :
    Completes i s fun t =>
      t.a = s.readByte s.hl ∧ t.hl = v ∧ SameRegsBut [.a, .h, .l] s t ∧ t.f = s.f ∧ t.sp = s.sp ∧ t.pc = s.pc ∧
        SameControl s t ∧ SameMemory s t :=
  ⟨_, hexec, rfl, State.hl_setHl _ v, (sameRegsBut_setReg s .a (s.readByte s.hl)).trans (sameRegsBut_setHl _ v), rfl, rfl, rfl,
    (sameControl_setReg s .a (s.readByte s.hl)).trans (sameControl_setHl _ v), sameMemory_of_mem rfl⟩

/-- A handler that stores A at the old HL and puts `v` in HL: the store is seen at the old HL, because writing HL leaves memory alone. -/
theorem completes_of_storeA_setHl {i : Instr} {s : State} {v : Word} (hexec : exec i s = .next ((storeA s.hl s).setHl v)) :
    Completes i s fun t =>
      t.readByte s.hl = s.a ∧ SameMemoryBut [s.hl] s t ∧ t.hl = v ∧ SameRegsBut [.h, .l] s t ∧ t.f = s.f ∧ t.sp = s.sp ∧
        t.pc = s.pc ∧ SameControl s t :=
  ⟨_, hexec, s.readByte_writeByte_same s.hl s.a, sameMemoryBut_writeByte s s.hl s.a, State.hl_setHl _ v,
    (sameRegsBut_writeByte s s.hl s.a).trans (sameRegsBut_setHl _ v), rfl, rfl, rfl,
    (sameControl_writeByte s s.hl s.a).trans (sameControl_setHl _ v)⟩

end Sys2Proof.Machine
end

section
/-! The 8-bit loads between registers, immediates and the byte at HL (40_load8.md R200 to R204): the rows of each form, and its handler
by what a handler that writes one register or one byte does. -/

namespace Sys2Proof.Machine

/-! ## Rows: one per choice of the registers (30_encoding.md R129) -/

theorem hasRow_ldRegReg (dst src : Reg8) :
    HasRow (Instr.ldRegReg dst src) true fun _ => [BitVec.ofNat 8 (0x40 + 8 * dst.code + src.code)] := by
  cases dst <;> cases src <;> exact ⟨rfl, fun _ => rfl⟩

theorem hasRow_ldRegImm (dst : Reg8) (n : Byte) :
    HasRow (Instr.ldRegImm dst n) true fun _ => [BitVec.ofNat 8 (0x06 + 8 * dst.code), n] := by
  cases dst <;> exact ⟨rfl, fun _ => rfl⟩

theorem hasRow_ldRegAtHl (dst : Reg8) :
    HasRow (Instr.ldRegAtHl dst) true fun _ => [BitVec.ofNat 8 (0x46 + 8 * dst.code)] := by
  cases dst <;> exact ⟨rfl, fun _ => rfl⟩

theorem hasRow_ldAtHlReg (r : Reg8) : HasRow (Instr.ldAtHlReg r) true fun _ => [BitVec.ofNat 8 (0x70 + r.code)] := by
  cases r <;> exact ⟨rfl, fun _ => rfl⟩

/-! ## The statements -/

/-- Settles O30: the handler writes the destination with the source's old value and leaves pc where it is. -/
theorem loadRegisterFromRegister : Obligations.LoadRegisterFromRegister :=
  fun dst src => ⟨hasRow_ldRegReg dst src, fun s => completes_of_setReg (exec_ldRegReg dst src s)⟩

/-- Settles O31: the handler writes the register with the immediate in the state past it. -/
theorem loadRegisterImmediate : Obligations.LoadRegisterImmediate :=
  fun dst n => ⟨hasRow_ldRegImm dst n, fun s => completes_of_setReg (exec_ldRegImm dst n s)⟩

/-- Settles O32: the byte is read before the register, H and L included, is written. -/
theorem loadRegisterAtHl : Obligations.LoadRegisterAtHl :=
  fun dst => ⟨hasRow_ldRegAtHl dst, fun s => completes_of_setReg (exec_ldRegAtHl dst s)⟩

/-- Settles O33: both handlers store one byte at HL, the second past its immediate. -/
theorem storeAtHl : Obligations.StoreAtHl := by
  refine ⟨fun r => ⟨hasRow_ldAtHlReg r, fun s => ?reg⟩, fun n => ⟨⟨rfl, fun _ => rfl⟩, fun s => ?imm⟩⟩
  case reg => exact storesByte_of_exec (exec_ldAtHlReg r s) (BitVec.add_zero s.pc).symm
  case imm => exact storesByte_of_exec (exec_ldAtHlD8 n s) rfl

end Sys2Proof.Machine
end

section
/-! The 8-bit loads and stores of A through an address (40_load8.md R205 to R218): through BC, DE, the high page and an absolute address,
and through HL, which then steps up or down. -/

namespace Sys2Proof.Machine

/-- Settles O34: each of the five handlers loads A, those with an immediate past its bytes. -/
theorem loadAIndirect : Obligations.LoadAIndirect := by
  intro n nn s
  have hpc : s.pc = s.pc + BitVec.ofNat 16 0 := (BitVec.add_zero s.pc).symm
  exact ⟨⟨rfl, fun _ => rfl⟩, loadsA_of_exec (exec_ldAAtBc s) hpc,
    ⟨rfl, fun _ => rfl⟩, loadsA_of_exec (exec_ldAAtDe s) hpc,
    ⟨rfl, fun _ => rfl⟩, loadsA_of_exec (exec_ldhAAtC s) hpc,
    ⟨rfl, fun _ => rfl⟩, loadsA_of_exec (exec_ldhAAtA8 n s) rfl,
    ⟨rfl, fun _ => rfl⟩, loadsA_of_exec (exec_ldAAtA16 nn s) rfl⟩

/-- Settles O35: each of the five handlers stores A, those with an immediate past its bytes. -/
theorem storeAIndirect : Obligations.StoreAIndirect := by
  intro n nn s
  have hpc : s.pc = s.pc + BitVec.ofNat 16 0 := (BitVec.add_zero s.pc).symm
  exact ⟨⟨rfl, fun _ => rfl⟩, storesByte_of_exec (exec_ldAtBcA s) hpc,
    ⟨rfl, fun _ => rfl⟩, storesByte_of_exec (exec_ldAtDeA s) hpc,
    ⟨rfl, fun _ => rfl⟩, storesByte_of_exec (exec_ldhAtCA s) hpc,
    ⟨rfl, fun _ => rfl⟩, storesByte_of_exec (exec_ldhAtA8A n s) rfl,
    ⟨rfl, fun _ => rfl⟩, storesByte_of_exec (exec_ldAtA16A nn s) rfl⟩

/-- Settles O36, by the direction of the step. -/
theorem loadAAndStepHl : Obligations.LoadAAndStepHl := by
  intro s up
  cases up with
  | true => exact ⟨⟨rfl, fun _ => rfl⟩, completes_of_loadA_setHl (exec_ldAAtHlInc s)⟩
  | false => exact ⟨⟨rfl, fun _ => rfl⟩, completes_of_loadA_setHl (exec_ldAAtHlDec s)⟩

/-- Settles O37, by the direction of the step. -/
theorem storeAAndStepHl : Obligations.StoreAAndStepHl := by
  intro s up
  cases up with
  | true => exact ⟨⟨rfl, fun _ => rfl⟩, completes_of_storeA_setHl (exec_ldAtHlIncA s)⟩
  | false => exact ⟨⟨rfl, fun _ => rfl⟩, completes_of_storeA_setHl (exec_ldAtHlDecA s)⟩

end Sys2Proof.Machine
end

section
/-! Frames of the 16-bit loads and of the stack (41_load16_stack.md): what writing a pair, storing a word, pushing a word, setting the
flags and moving pc or sp leave unchanged, and what a pair and the two stacked bytes read as afterwards. -/

namespace Sys2Proof.Machine

/-! ## A write of a pair -/

theorem sameControl_setPair (s : State) (p : Pair) (v : Word) : SameControl s (s.setPair p v) := by
  cases p <;> exact ⟨rfl, rfl, rfl, rfl, rfl, rfl, rfl, rfl, rfl, rfl⟩

theorem sameControl_setStackPair (s : State) (p : StackPair) (v : Word) : SameControl s (s.setStackPair p v) := by
  cases p <;> exact ⟨rfl, rfl, rfl, rfl, rfl, rfl, rfl, rfl, rfl, rfl⟩

/-- BC, DE and HL are written as their high and then their low cell. -/
theorem sameRegsBut_setReg_setReg (s : State) (hi lo : Reg8) (v w : Byte) :
    SameRegsBut [hi, lo] s ((s.setReg hi v).setReg lo w) :=
  (sameRegsBut_setReg s hi v).trans (sameRegsBut_setReg _ lo w)

theorem sameRegsBut_setPair (s : State) (p : Pair) (v : Word) : SameRegsBut (pairCells p) s (s.setPair p v) := by
  cases p with
  | bc => exact sameRegsBut_setReg_setReg s .b .c (hi8 v) (lo8 v)
  | de => exact sameRegsBut_setReg_setReg s .d .e (hi8 v) (lo8 v)
  | hl => exact sameRegsBut_setHl s v
  | sp => exact fun r _ => reg_of_fields rfl rfl rfl rfl rfl rfl rfl r

theorem sameRegsBut_setStackPair (s : State) (p : StackPair) (v : Word) :
    SameRegsBut (stackPairCells p) s (s.setStackPair p v) := by
  cases p with
  | bc => exact sameRegsBut_setReg_setReg s .b .c (hi8 v) (lo8 v)
  | de => exact sameRegsBut_setReg_setReg s .d .e (hi8 v) (lo8 v)
  | hl => exact sameRegsBut_setHl s v
  | af => exact sameRegsBut_setReg (s.setFlagReg (lo8 v)) .a (hi8 v)

/-- A pair other than AF reads back in full. -/
theorem State.stackPair_setStackPair {p : StackPair} (h : p ≠ .af) (s : State) (v : Word) :
    (s.setStackPair p v).stackPair p = v := by
  cases p with
  | bc => exact joinBytes_hi8_lo8 v
  | de => exact joinBytes_hi8_lo8 v
  | hl => exact joinBytes_hi8_lo8 v
  | af => exact absurd rfl h

/-- A pair other than AF leaves F alone. -/
theorem State.setStackPair_f {p : StackPair} (h : p ≠ .af) (s : State) (v : Word) : (s.setStackPair p v).f = s.f := by
  cases p with
  | af => exact absurd rfl h
  | _ => rfl

/-! ## The stack -/

theorem sameRegsBut_push16 (s : State) (v : Word) : SameRegsBut [] s (s.push16 v) := fun r _ => s.push16_reg v r

theorem State.readByte_push16_low (s : State) (v : Word) : (s.push16 v).readByte (s.sp - 2) = lo8 v := by
  rw [State.readByte_push16, if_pos rfl]

/-- The store of the low byte does not reach the high byte, wrap at 0x0000 included. -/
theorem State.readByte_push16_high (s : State) (v : Word) : (s.push16 v).readByte (s.sp - 1) = hi8 v := by
  have hne : s.sp - 1 ≠ s.sp - 2 := by bv_omega
  rw [State.readByte_push16, if_neg hne, if_pos rfl]

/-! ## A word in memory -/

/-- The word primitives read back what they wrote, in either WORD_ORDER (20_memory.md R84, R85). -/
theorem State.readWord_writeWord_same (s : State) (addr v : Word) : (s.writeWord addr v).readWord addr = v := by
  rw [State.readWord, State.readByte_writeWord_first, State.readByte_writeWord_second]
  exact wordOfBytes_bytes s.params.wordOrder v

theorem sameControl_writeWord (s : State) (addr v : Word) : SameControl s (s.writeWord addr v) :=
  (sameControl_writeByte s addr _).trans (sameControl_writeByte _ (addr + 1) _)

theorem sameRegsBut_writeWord (s : State) (addr v : Word) : SameRegsBut [] s (s.writeWord addr v) :=
  fun r _ => s.writeWord_reg addr v r

/-! ## The flags, pc and sp -/

theorem sameRegsBut_setFlags (s : State) (z n h c : Bool) : SameRegsBut [] s (s.setFlags z n h c) :=
  fun r _ => s.setFlags_reg z n h c r

theorem sameRegsBut_advance (s : State) (n : Nat) : SameRegsBut [] s (s.advance n) := fun r _ => s.advance_reg n r

theorem sameControl_setSp (s : State) (v : Word) : SameControl s { s with sp := v } :=
  ⟨rfl, rfl, rfl, rfl, rfl, rfl, rfl, rfl, rfl, rfl⟩

theorem sameRegsBut_setSp (s : State) (v : Word) : SameRegsBut [] s { s with sp := v } :=
  fun r _ => reg_of_fields rfl rfl rfl rfl rfl rfl rfl r

end Sys2Proof.Machine
end

section
/-! LD rr,nn (41_load16_stack.md R250): the handler, and the same instruction through Execute, which reads its immediate from memory in
WORD_ORDER. -/

namespace Sys2Proof.Machine

/-- Execute of an opcode that decodes to a handler runs it with the EI delay done and raises no error (30_encoding.md R141). -/
theorem hostExecute_of_handler {s : State} {op : Byte} {i : Instr} (hrun : s.runState = .running)
    (hdecode : decode s.params.profile s.params.wordOrder op (s.readByte s.pc) (s.readByte (s.pc + 1)) = .instr i)
    (hhole : i.isHole = false) :
    hostExecute s op = replyWith none (exec i (State.promoteIme { s with irqNow := none, irqAck := none })) := by
  rw [hostExecute_of_running hrun, hdecode]
  simp only [hhole, raisedError_handler, Bool.false_eq_true, if_false]

/-- LD rr,nn is decoded under both profiles, its immediate in WORD_ORDER. -/
theorem decode_ldPairImm (prof : Profile) (o : WordOrder) (p : Pair) (b1 b2 : Byte) :
    decode prof o (BitVec.ofNat 8 (0x01 + 16 * p.code)) b1 b2 = .instr (Instr.ldPairImm p (wordOfBytes o b1 b2)) := by
  cases prof <;> cases p <;> rfl

theorem hasRow_ldPairImm (p : Pair) (nn : Word) :
    HasRow (Instr.ldPairImm p nn) true fun o => BitVec.ofNat 8 (0x01 + 16 * p.code) :: wordBytes o nn := by
  cases p <;> exact ⟨rfl, fun _ => rfl⟩

theorem completes_ldPairImm (p : Pair) (nn : Word) (s : State) :
    Completes (Instr.ldPairImm p nn) s fun t =>
      t.pair p = nn ∧ SameRegsBut (pairCells p) s t ∧ (p ≠ .sp → t.sp = s.sp) ∧ t.f = s.f ∧ t.pc = s.pc + 2 ∧
        SameControl s t ∧ SameMemory s t :=
  ⟨_, exec_ldPairImm p nn s, State.pair_setPair _ p nn, (sameRegsBut_advance s 2).trans (sameRegsBut_setPair _ p nn),
    fun hp => State.setPair_sp hp _ nn, State.setPair_f _ p nn, State.setPair_pc _ p nn,
    (sameControl_advance s 2).trans (sameControl_setPair _ p nn), sameMemory_of_mem (State.setPair_mem _ p nn)⟩

/-- Execute of LD rr,nn loads the word that the word read finds at pc. -/
theorem hostExecute_ldPairImm {s : State} (hrun : s.runState = .running) (p : Pair) :
    ∃ t, hostExecute s (BitVec.ofNat 8 (0x01 + 16 * p.code)) = .next ⟨t, none⟩ ∧ t.pair p = s.readWord s.pc ∧
      t.pc = s.pc + 2 := by
  obtain ⟨t, hexec, hpair, -, -, -, hpc, -, -⟩ :=
    completes_ldPairImm p (s.readWord s.pc) (State.promoteIme { s with irqNow := none, irqAck := none })
  refine ⟨t, ?_, hpair, hpc⟩
  rw [hostExecute_of_handler hrun (decode_ldPairImm _ _ p _ _) (isHole_ldPairImm p _)]
  exact congrArg (replyWith none) hexec

/-- Settles O38: the handler by the write of the pair past the immediate; Execute by the word it reads at pc, which is the word that was
stored there. -/
theorem loadPairImmediate : Obligations.LoadPairImmediate := by
  refine fun p nn => ⟨hasRow_ldPairImm p nn, fun s => ⟨completes_ldPairImm p nn s, fun hrun => ?_⟩⟩
  obtain ⟨t, hexec, hpair, hpc⟩ := hostExecute_ldPairImm (s := s.writeWord s.pc nn) hrun p
  exact ⟨t, hexec, hpair.trans (s.readWord_writeWord_same s.pc nn), hpc⟩

end Sys2Proof.Machine
end

section
/-! The loads and stores of sp and the stack operations (41_load16_stack.md R251 to R256). -/

namespace Sys2Proof.Machine

/-! ## sp -/

/-- Settles O39: LD SP,HL writes sp alone; LD (nn),SP is the word primitive of O26 past the immediate. -/
theorem loadAndStoreSp : Obligations.LoadAndStoreSp := by
  refine ⟨⟨⟨rfl, fun _ => rfl⟩, fun s => ?load⟩, fun nn => ⟨⟨rfl, fun _ => rfl⟩, fun s => ?store⟩⟩
  case load =>
    exact ⟨_, exec_ldSpHl s, rfl, sameRegsBut_setSp s s.hl, rfl, rfl, sameControl_setSp s s.hl, sameMemory_of_mem rfl⟩
  case store =>
    obtain ⟨-, hfirst, hsecond, hframe, -⟩ := wordPrimitives (s.advance 2) nn s.sp
    exact ⟨_, exec_ldAtA16Sp nn s, hfirst, hsecond, hframe,
      (sameRegsBut_advance s 2).trans (sameRegsBut_writeWord _ nn s.sp), rfl, rfl, rfl,
      (sameControl_advance s 2).trans (sameControl_writeWord _ nn s.sp)⟩

/-! ## PUSH and POP -/

theorem hasRow_push (p : StackPair) : HasRow (Instr.push p) true fun _ => [BitVec.ofNat 8 (0xC5 + 16 * p.code)] := by
  cases p <;> exact ⟨rfl, fun _ => rfl⟩

theorem hasRow_pop (p : StackPair) : HasRow (Instr.pop p) true fun _ => [BitVec.ofNat 8 (0xC1 + 16 * p.code)] := by
  cases p <;> exact ⟨rfl, fun _ => rfl⟩

/-- The low byte of AF is F as it reads (10_state.md R34). -/
theorem State.lo8_stackPair_af (s : State) : lo8 (s.stackPair .af) = s.f &&& 0xF0 := lo8_joinBytes s.a s.flagReg

/-- Settles O40: the two bytes and the frame of a push of the pair; for AF the low byte is F without its low nibble. -/
theorem pushStoresPair : Obligations.PushStoresPair := by
  refine fun p => ⟨hasRow_push p, fun s => ?_⟩
  have hlow := s.readByte_push16_low (s.stackPair p)
  refine ⟨_, exec_push p s, rfl, s.readByte_push16_high (s.stackPair p), hlow, ?af, sameMemoryBut_push16 s _,
    sameRegsBut_push16 s _, rfl, rfl, sameControl_push16 s _⟩
  case af =>
    rintro rfl
    exact hlow.trans s.lo8_stackPair_af

/-- What a POP leaves in its pair: AF loses the low nibble of F, and no other pair touches F. -/
theorem popPair_loads (p : StackPair) (s : State) :
    if p = .af then (popPair p s).a = s.readByte (s.sp + 1) ∧ (popPair p s).f = s.readByte s.sp &&& 0xF0
    else (popPair p s).stackPair p = joinBytes (s.readByte (s.sp + 1)) (s.readByte s.sp) ∧ (popPair p s).f = s.f := by
  split
  case isTrue h =>
    subst h
    exact ⟨hi8_joinBytes _ _, congrArg (· &&& 0xF0) (lo8_joinBytes _ _)⟩
  case isFalse h => exact ⟨State.stackPair_setStackPair h _ _, State.setStackPair_f h _ _⟩

/-- Settles O41: the word at sp goes to the pair in the state where sp is already up by 2. -/
theorem popLoadsPair : Obligations.PopLoadsPair := by
  refine fun p => ⟨hasRow_pop p, fun s => ?_⟩
  exact ⟨_, exec_pop p s, popPair_loads p s, State.setStackPair_sp _ p _,
    (sameRegsBut_setSp s (s.sp + 2)).trans (sameRegsBut_setStackPair _ p _), State.setStackPair_pc _ p _,
    (sameControl_setSp s (s.sp + 2)).trans (sameControl_setStackPair _ p _), sameMemory_of_mem (State.setStackPair_mem _ p _)⟩

end Sys2Proof.Machine
end

section
/-! LD HL,SP+e and ADD SP,e (41_load16_stack.md R257, 43_alu16.md R403): both take sum and flags from `addDisplacement`, whose carries
are those of the low byte. -/

namespace Sys2Proof.Machine

theorem addDisplacement_r (sp : Word) (e : Byte) : (addDisplacement sp e).r = sp + BitVec.ofInt 16 e.toInt := rfl

theorem addDisplacement_h (sp : Word) (e : Byte) :
    (addDisplacement sp e).h = decide (15 < sp.toNat % 16 + e.toNat % 16) := rfl

/-- The low byte of sp is its residue modulo 256. -/
theorem addDisplacement_c (sp : Word) (e : Byte) : (addDisplacement sp e).c = decide (255 < sp.toNat % 256 + e.toNat) := by
  have hlow : (lo8 sp).toNat = sp.toNat % 256 := by rw [lo8, BitVec.extractLsb'_toNat, Nat.shiftRight_zero]
  rw [addDisplacement, hlow]

/-- The flags of a state whose F was set from a displaced sp. -/
theorem flagsAre_addDisplacement (s : State) (sp : Word) (e : Byte) :
    FlagsAre (s.setFlags false false (addDisplacement sp e).h (addDisplacement sp e).c) false false
      (decide (15 < sp.toNat % 16 + e.toNat % 16)) (decide (255 < sp.toNat % 256 + e.toNat)) := by
  rw [addDisplacement_h, addDisplacement_c]
  exact flagsAre_of_f rfl

/-- Settles O42: both handlers move pc past the displacement, write HL or sp, and then set the flags. -/
theorem spPlusDisplacement : Obligations.SpPlusDisplacement := by
  refine fun e => ⟨⟨rfl, fun _ => rfl⟩, ⟨rfl, fun _ => rfl⟩, fun s => ⟨?hl, ?sp⟩⟩
  case hl =>
    exact ⟨_, exec_ldHlSpE8 e s, (State.hl_setHl (s.advance 1) _).trans (addDisplacement_r s.sp e),
      flagsAre_addDisplacement _ s.sp e,
      ((sameRegsBut_advance s 1).trans (sameRegsBut_setHl _ _)).trans (sameRegsBut_setFlags _ _ _ _ _), rfl, rfl,
      ((sameControl_advance s 1).trans (sameControl_setHl _ _)).trans (sameControl_setFlags _ _ _ _ _), sameMemory_of_mem rfl⟩
  case sp =>
    exact ⟨_, exec_addSpE8 e s, addDisplacement_r s.sp e, flagsAre_addDisplacement _ s.sp e,
      ((sameRegsBut_advance s 1).trans (sameRegsBut_setSp (s.advance 1) _)).trans (sameRegsBut_setFlags _ _ _ _ _), rfl,
      ((sameControl_advance s 1).trans (sameControl_setSp _ _)).trans (sameControl_setFlags _ _ _ _ _), sameMemory_of_mem rfl⟩

end Sys2Proof.Machine
end

section
/-! The 8-bit operations on A (42_alu8.md R300 to R326): the rows of both forms, what every operation writes and leaves unchanged,
and how the two forms complete. -/

namespace Sys2Proof.Machine

/-! ## Rows (30_encoding.md R129, R131): DOC has ADD alone -/

theorem hasRow_alu (op : AluOp) (o : Operand8) :
    HasRow (Instr.alu op o) (decide (op = .add)) fun _ => [BitVec.ofNat 8 (0x80 + 8 * op.code + o.code)] := by
  cases op <;> rcases o with ⟨⟨⟩⟩ | _ <;> exact ⟨rfl, fun _ => rfl⟩

theorem hasRow_aluImm (op : AluOp) (n : Byte) :
    HasRow (Instr.aluImm op n) (decide (op = .add)) fun _ => [BitVec.ofNat 8 (0xC6 + 8 * op.code), n] := by
  cases op <;> exact ⟨rfl, fun _ => rfl⟩

/-! ## What an operation writes and keeps -/

/-- Every operation but CP writes A. -/
theorem writeAluResult_eq_setReg {op : AluOp} (h : op ≠ .cp) (r : Byte) (s : State) : writeAluResult op r s = s.setReg .a r := by
  cases op with
  | cp => exact absurd rfl h
  | _ => rfl

theorem aluApply_a {op : AluOp} (h : op ≠ .cp) (v : Byte) (s : State) : (aluApply op v s).a = (aluResult op s.a v s.cf).r := by
  rw [aluApply, writeAluResult_eq_setReg h]
  rfl

theorem flagsAre_aluApply (op : AluOp) (v : Byte) (s : State) :
    FlagsAre (aluApply op v s) (isZero (aluResult op s.a v s.cf).r) (aluSubtracts op) (aluResult op s.a v s.cf).h
      (aluResult op s.a v s.cf).c :=
  flagsAre_of_f rfl

theorem aluApply_pc (op : AluOp) (v : Byte) (s : State) : (aluApply op v s).pc = s.pc := by
  cases op <;> rfl

/-- An operation writes nothing but A and F, wherever pc stands. -/
theorem aluApply_frame (op : AluOp) (v : Byte) (s : State) (pc : Word) :
    SameRegsBut [.a] s (aluApply op v (s.jump pc)) ∧ (aluApply op v (s.jump pc)).sp = s.sp ∧
      SameControl s (aluApply op v (s.jump pc)) ∧ SameMemory s (aluApply op v (s.jump pc)) := by
  by_cases h : op = .cp
  case pos =>
    subst h
    exact ⟨fun r _ => reg_of_fields rfl rfl rfl rfl rfl rfl rfl r, rfl,
      (sameControl_jump s pc).trans (sameControl_setFlags _ _ _ _ _), sameMemory_of_mem rfl⟩
  case neg =>
    rw [aluApply, writeAluResult_eq_setReg h]
    exact ⟨((sameRegsBut_jump s pc).trans (sameRegsBut_setReg _ .a _)).trans (sameRegsBut_setFlags _ _ _ _ _), rfl,
      ((sameControl_jump s pc).trans (sameControl_setReg _ .a _)).trans (sameControl_setFlags _ _ _ _ _),
      sameMemory_of_mem rfl⟩

/-- What an operation does to every value, wherever pc stands, both forms do: to a register or the byte at HL with pc unmoved, and to an
immediate with pc past it. -/
theorem completes_alu_and_aluImm {op : AluOp} {s : State} {effect : Byte → State → Prop}
    (h : ∀ v pc, effect v (aluApply op v (s.jump pc))) (o : Operand8) (n : Byte) :
    (Completes (Instr.alu op o) s fun t => effect (s.operand o) t ∧ t.pc = s.pc) ∧
      Completes (Instr.aluImm op n) s fun t => effect n t ∧ t.pc = s.pc + 1 :=
  ⟨⟨_, exec_alu op o s, h _ s.pc, aluApply_pc op _ s⟩, ⟨_, exec_aluImm op n s, h n (s.pc + 1), aluApply_pc op n (s.advance 1)⟩⟩

/-! ## Zero, and the carry in, as numbers -/

theorem isZero_eq_decide_toNat (r : Byte) : isZero r = decide (r.toNat = 0) :=
  decide_eq_decide.mpr BitVec.toNat_eq

theorem isZero_eq_decide_int (r : Byte) : isZero r = decide ((r.toNat : Int) = 0) := by
  rw [isZero_eq_decide_toNat, decide_eq_decide]
  exact Int.natCast_eq_zero.symm

/-- A carry or borrow in as a number, in the form of the statements. -/
theorem toNat_decide (p : Prop) [Decidable p] : (decide p).toNat = if p then 1 else 0 := by
  by_cases h : p <;> simp [h]

end Sys2Proof.Machine
end

section
/-! ADD and ADC (42_alu8.md R300 to R305): both take result and flags from `add8`, ADD with no carry in. -/

namespace Sys2Proof.Machine

theorem add8_r_toNat (a b : Byte) (cin : Bool) : (add8 a b cin).r.toNat = (a.toNat + b.toNat + cin.toNat) % 256 :=
  BitVec.toNat_ofNat _ 8

theorem aluResult_add (carry : Bool) (a v : Byte) (cf : Bool) :
    aluResult (if carry then .adc else .add) a v cf = add8 a v (decide (carry && cf)) := by
  cases carry <;> cases cf <;> rfl

/-- Settles O43: the sum and its flags are those of `add8` with the carry flag let in by ADC alone. -/
theorem addToA : Obligations.AddToA := by
  intro carry o n op
  have hne : op ≠ .cp := by cases carry <;> decide
  have hsubtracts : aluSubtracts op = false := by cases carry <;> rfl
  have hdoc : decide (op = .add) = !carry := by cases carry <;> rfl
  refine ⟨hdoc ▸ hasRow_alu op o, hdoc ▸ hasRow_aluImm op n, fun s => ?_⟩
  intro cin sum
  have hcin : (decide (carry && s.cf)).toNat = cin := toNat_decide _
  refine completes_alu_and_aluImm (effect := sum) (fun v pc => ⟨?sum, ?flags, aluApply_frame op v s pc⟩) o n
  case sum =>
    rw [aluApply_a hne, aluResult_add, add8_r_toNat, ← hcin]
    rfl
  case flags =>
    have hflags := flagsAre_aluApply op v (s.jump pc)
    rw [aluResult_add, isZero_eq_decide_toNat, add8_r_toNat, hsubtracts] at hflags
    rw [← hcin]
    exact hflags

end Sys2Proof.Machine
end

section
/-! SUB, SBC and CP (42_alu8.md R306 to R311, R324 to R326): all three take the difference and its flags from `sub8`, SBC alone with
the carry flag as borrow in; CP writes the flags only. -/

namespace Sys2Proof.Machine

/-- The difference as an integer, the borrow in included. -/
theorem sub8_r_toNat (a b : Byte) (cin : Bool) :
    ((sub8 a b cin).r.toNat : Int) = ((a.toNat : Int) - b.toNat - cin.toNat) % 256 := by
  have hcin : cin.toNat ≤ 1 := Bool.toNat_le cin
  have ha : a.toNat < 256 := a.isLt
  have hb : b.toNat < 256 := b.isLt
  rw [sub8, BitVec.toNat_sub, BitVec.toNat_sub, BitVec.toNat_ofNat]
  omega

theorem aluResult_subtract {op : AluOp} (h : op = .sub ∨ op = .sbc ∨ op = .cp) (a v : Byte) (cf : Bool) :
    aluResult op a v cf = sub8 a v (decide (op = .sbc ∧ cf = true)) := by
  rcases h with rfl | rfl | rfl <;> cases cf <;> rfl

theorem aluSubtracts_subtract {op : AluOp} (h : op = .sub ∨ op = .sbc ∨ op = .cp) : aluSubtracts op = true := by
  rcases h with rfl | rfl | rfl <;> rfl

/-- Settles O44: the difference and its flags are those of `sub8` with the carry flag let in by SBC alone; CP writes no A. -/
theorem subtractFromA : Obligations.SubtractFromA := by
  intro op o n hop
  have hdoc : decide (op = .add) = false := by rcases hop with rfl | rfl | rfl <;> rfl
  refine ⟨hdoc ▸ hasRow_alu op o, hdoc ▸ hasRow_aluImm op n, fun s => ?_⟩
  intro cin difference
  have hcin : (decide (op = .sbc ∧ s.cf = true)).toNat = cin := toNat_decide _
  refine completes_alu_and_aluImm (effect := difference)
    (fun v pc => ⟨fun hne => ?result, ?cp, ?flags, aluApply_frame op v s pc⟩) o n
  case result =>
    rw [aluApply_a hne, aluResult_subtract hop, sub8_r_toNat, ← hcin]
    rfl
  case cp =>
    rintro rfl
    rfl
  case flags =>
    have hflags := flagsAre_aluApply op v (s.jump pc)
    rw [aluResult_subtract hop, isZero_eq_decide_int, sub8_r_toNat, aluSubtracts_subtract hop] at hflags
    rw [← hcin]
    exact hflags

end Sys2Proof.Machine
end

section
/-! AND, XOR and OR (42_alu8.md R315 to R323): each combines the bits of A and the operand one by one, with no carry; AND alone sets H. -/

namespace Sys2Proof.Machine

theorem logic_flags {op : AluOp} (h : op = .and ∨ op = .xor ∨ op = .or) (a v : Byte) (cf : Bool) :
    aluSubtracts op = false ∧ (aluResult op a v cf).h = decide (op = .and) ∧ (aluResult op a v cf).c = false := by
  rcases h with rfl | rfl | rfl <;> exact ⟨rfl, rfl, rfl⟩

/-- Settles O45: each bit of A by the library's lemma for the operation, Zero by the A that was written. -/
theorem logicOnA : Obligations.LogicOnA := by
  intro op o n hop
  have hdoc : decide (op = .add) = false := by rcases hop with rfl | rfl | rfl <;> rfl
  have hne : op ≠ .cp := by rcases hop with rfl | rfl | rfl <;> decide
  refine ⟨hdoc ▸ hasRow_alu op o, hdoc ▸ hasRow_aluImm op n, fun s => ?_⟩
  intro bitwise
  refine completes_alu_and_aluImm (effect := bitwise)
    (fun v pc => ⟨fun k _ => ?bits, ?flags, aluApply_frame op v s pc⟩) o n
  case bits =>
    rw [aluApply_a hne]
    rcases hop with rfl | rfl | rfl
    · exact BitVec.getLsbD_and
    · exact BitVec.getLsbD_xor
    · exact BitVec.getLsbD_or
  case flags =>
    have hflags := flagsAre_aluApply op v (s.jump pc)
    obtain ⟨hsubtracts, hhalf, hcarry⟩ := logic_flags hop (s.jump pc).a v (s.jump pc).cf
    rw [hsubtracts, hhalf, hcarry, ← aluApply_a hne] at hflags
    exact hflags

end Sys2Proof.Machine
end

section
/-! INC and DEC of an 8-bit operand (42_alu8.md R330 to R333): the operand is written and then F, with C put back as it was. -/

namespace Sys2Proof.Machine

/-! ## Rows -/

theorem hasRow_incOp (o : Operand8) : HasRow (Instr.incOp o) false fun _ => [BitVec.ofNat 8 (0x04 + 8 * o.code)] := by
  rcases o with ⟨⟨⟩⟩ | _ <;> exact ⟨rfl, fun _ => rfl⟩

theorem hasRow_decOp (o : Operand8) : HasRow (Instr.decOp o) false fun _ => [BitVec.ofNat 8 (0x05 + 8 * o.code)] := by
  rcases o with ⟨⟨⟩⟩ | _ <;> exact ⟨rfl, fun _ => rfl⟩

/-! ## A handler that writes an operand and the flags -/

/-- Writing F after the operand reaches no other register and no memory; nor does moving pc before it. -/
theorem operandWritten_jump_setOperand_setFlags (s : State) (pc : Word) (o : Operand8) (v : Byte) (z n h c : Bool) :
    OperandWritten o v s (((s.jump pc).setOperand o v).setFlags z n h c) :=
  (operandWritten_setOperand o v (s.jump pc)).transport (fun r => (s.jump_reg pc r).symm) rfl
    (fun r => State.setFlags_reg _ z n h c r) rfl

/-- A handler that moves pc, writes an operand and sets the flags; with `pc = s.pc` the state `s.jump pc` is `s` itself. -/
theorem completes_of_setOperand_setFlags {i : Instr} {s : State} {o : Operand8} {v : Byte} {z n h c : Bool} (pc : Word)
    (hexec : exec i s = .next (((s.jump pc).setOperand o v).setFlags z n h c)) :
    Completes i s fun t =>
      OperandWritten o v s t ∧ FlagsAre t z n h c ∧ t.sp = s.sp ∧ t.pc = pc ∧ SameControl s t :=
  ⟨_, hexec, operandWritten_jump_setOperand_setFlags s pc o v z n h c, flagsAre_of_f rfl, State.setOperand_sp _ o v,
    State.setOperand_pc _ o v,
    ((sameControl_jump s pc).trans (sameControl_setOperand _ o v)).trans (sameControl_setFlags _ z n h c)⟩

/-! ## One more and one less, as numbers -/

theorem add_one_eq_ofNat (v : Byte) : v + 1 = BitVec.ofNat 8 (v.toNat + 1) := by bv_omega

theorem sub_one_eq_ofNat (v : Byte) : v - 1 = BitVec.ofNat 8 (v.toNat + 255) := by bv_omega

/-- Only 255 wraps to 0. -/
theorem isZero_add_one (v : Byte) : isZero (v + 1) = decide (v.toNat = 255) :=
  decide_eq_decide.mpr (by bv_omega)

theorem isZero_sub_one (v : Byte) : isZero (v - 1) = decide (v.toNat = 1) :=
  decide_eq_decide.mpr (by bv_omega)

/-- The low nibble of a byte is its residue modulo 16. -/
theorem toNat_and_low (v : Byte) : (v &&& 0x0F).toNat = v.toNat % 16 := by
  rw [BitVec.toNat_and]
  exact Nat.and_two_pow_sub_one_eq_mod v.toNat 4

theorem incHalf_eq_decide (v : Byte) : incHalf v = decide (v.toNat % 16 = 15) := by
  rw [← toNat_and_low]
  exact decide_eq_decide.mpr BitVec.toNat_eq

theorem decHalf_eq_decide (v : Byte) : decHalf v = decide (v.toNat % 16 = 0) := by
  rw [← toNat_and_low]
  exact isZero_eq_decide_toNat _

/-- Settles O46: both handlers write the operand and the flags with pc where it stands. -/
theorem incDecOperand : Obligations.IncDecOperand := by
  refine fun o => ⟨hasRow_incOp o, hasRow_decOp o, fun s => ⟨?inc, ?dec⟩⟩
  case inc =>
    have hinc := completes_of_setOperand_setFlags s.pc (exec_incOp o s)
    rwa [isZero_add_one, incHalf_eq_decide, add_one_eq_ofNat] at hinc
  case dec =>
    have hdec := completes_of_setOperand_setFlags s.pc (exec_decOp o s)
    rwa [isZero_sub_one, decHalf_eq_decide, sub_one_eq_ofNat] at hdec

end Sys2Proof.Machine
end

section
/-! INC and DEC of a pair, and ADD HL,rr (43_alu16.md R400 to R402): INC and DEC write the pair alone; ADD writes HL and then F, with Z
put back as it was. -/

namespace Sys2Proof.Machine

/-! ## Rows (30_encoding.md R129, R131): none is in DOC -/

theorem hasRow_incPair (p : Pair) : HasRow (Instr.incPair p) false fun _ => [BitVec.ofNat 8 (0x03 + 16 * p.code)] := by
  cases p <;> exact ⟨rfl, fun _ => rfl⟩

theorem hasRow_decPair (p : Pair) : HasRow (Instr.decPair p) false fun _ => [BitVec.ofNat 8 (0x0B + 16 * p.code)] := by
  cases p <;> exact ⟨rfl, fun _ => rfl⟩

theorem hasRow_addHlPair (p : Pair) : HasRow (Instr.addHlPair p) false fun _ => [BitVec.ofNat 8 (0x09 + 16 * p.code)] := by
  cases p <;> exact ⟨rfl, fun _ => rfl⟩

/-! ## INC rr and DEC rr -/

/-- A handler that writes one pair: only a write of sp itself moves sp, and no pair reaches F. -/
theorem completes_of_setPair {i : Instr} {s : State} {p : Pair} {v : Word} (hexec : exec i s = .next (s.setPair p v)) :
    Completes i s fun t =>
      t.pair p = v ∧ SameRegsBut (pairCells p) s t ∧ (p ≠ .sp → t.sp = s.sp) ∧ t.f = s.f ∧ t.pc = s.pc ∧
        SameControl s t ∧ SameMemory s t :=
  ⟨_, hexec, State.pair_setPair s p v, sameRegsBut_setPair s p v, fun hp => State.setPair_sp hp s v, State.setPair_f s p v,
    State.setPair_pc s p v, sameControl_setPair s p v, sameMemory_of_mem (State.setPair_mem s p v)⟩

/-- Settles O47: either direction is one write of the pair. -/
theorem incDecPair : Obligations.IncDecPair := by
  intro p up
  cases up with
  | true => exact ⟨hasRow_incPair p, fun s => completes_of_setPair (exec_incPair p s)⟩
  | false => exact ⟨hasRow_decPair p, fun s => completes_of_setPair (exec_decPair p s)⟩

/-! ## ADD HL,rr -/

/-- The sum in naturals, cut to 16 bits, is the sum of words. -/
theorem add16_r (a b : Word) : (add16 a b).r = a + b := rfl

theorem add16_h (a b : Word) : (add16 a b).h = decide (4095 < a.toNat % 4096 + b.toNat % 4096) := rfl

theorem add16_c (a b : Word) : (add16 a b).c = decide (65535 < a.toNat + b.toNat) := rfl

theorem addHl_hl (p : Pair) (s : State) : (addHl p s).hl = s.hl + s.pair p :=
  (State.hl_setHl s _).trans (add16_r s.hl (s.pair p))

/-- Z is read from the state before the addition, and so are both terms of the carries, HL as the added pair included. -/
theorem flagsAre_addHl (p : Pair) (s : State) :
    FlagsAre (addHl p s) s.zf false (decide (4095 < s.hl.toNat % 4096 + (s.pair p).toNat % 4096))
      (decide (65535 < s.hl.toNat + (s.pair p).toNat)) := by
  rw [← add16_h, ← add16_c]
  exact flagsAre_of_f rfl

/-- Settles O48: HL and F by what the handler writes, the frame by the write of HL followed by that of F. -/
theorem addPairToHl : Obligations.AddPairToHl := by
  refine fun p => ⟨hasRow_addHlPair p, fun s => ?_⟩
  exact ⟨_, exec_addHlPair p s, addHl_hl p s, flagsAre_addHl p s,
    (sameRegsBut_setHl s _).trans (sameRegsBut_setFlags _ _ _ _ _), rfl, rfl,
    (sameControl_setHl s _).trans (sameControl_setFlags _ _ _ _ _), sameMemory_of_mem rfl⟩

end Sys2Proof.Machine
end

section
/-! The accumulator rotates and the flag operations (44_rotate_misc.md R450 to R457): each handler leaves some byte in A, the old one for
SCF and CCF, and then sets the flags. -/

namespace Sys2Proof.Machine

/-- Writing A and then F reaches nothing else. -/
theorem setA_setFlags_frame (s : State) (v : Byte) (z n h c : Bool) :
    SameRegsBut [.a] s ((s.setReg .a v).setFlags z n h c) ∧ ((s.setReg .a v).setFlags z n h c).sp = s.sp ∧
      ((s.setReg .a v).setFlags z n h c).pc = s.pc ∧ SameControl s ((s.setReg .a v).setFlags z n h c) ∧
      SameMemory s ((s.setReg .a v).setFlags z n h c) :=
  ⟨(sameRegsBut_setReg s .a v).trans (sameRegsBut_setFlags _ z n h c), rfl, rfl,
    (sameControl_setReg s .a v).trans (sameControl_setFlags _ z n h c), sameMemory_of_mem rfl⟩

/-! ## Rotated bytes as numbers

A shift by one place frees one bit, and the bit put there shares no place with the others: the OR is a sum. -/

/-- A shift left with the bit `x` let in at bit 0. -/
theorem toNat_shiftLeft_one_or {x : Byte} (hx : x.toNat < 2) (a : Byte) :
    ((a <<< 1) ||| x).toNat = (2 * a.toNat + x.toNat) % 256 := by
  have hshift : (a <<< 1).toNat = 2 ^ 1 * (a.toNat % 128) := by
    rw [BitVec.toNat_shiftLeft, Nat.shiftLeft_eq]
    omega
  rw [BitVec.toNat_or, hshift, ← Nat.two_pow_add_eq_or_of_lt hx]
  omega

/-- A shift right with bit 0 of `b` let in at bit 7. -/
theorem toNat_shiftRight_one_or (a b : Byte) :
    ((a >>> 1) ||| (b <<< 7)).toNat = a.toNat / 2 + 128 * (b.toNat % 2) := by
  have hlow : (a >>> 1).toNat = a.toNat / 2 := by
    rw [BitVec.toNat_ushiftRight, Nat.shiftRight_eq_div_pow, Nat.pow_one]
  have hhigh : (b <<< 7).toNat = 2 ^ 7 * (b.toNat % 2) := by
    rw [BitVec.toNat_shiftLeft, Nat.shiftLeft_eq]
    omega
  have hlt : a.toNat / 2 < 2 ^ 7 := by have := a.isLt; omega
  rw [BitVec.toNat_or, hlow, hhigh, Nat.or_comm, ← Nat.two_pow_add_eq_or_of_lt hlt, Nat.add_comm]

theorem rlcaResult_toNat (a : Byte) : (rlcaResult a).1.toNat = (2 * a.toNat + a.toNat / 128) % 256 := by
  have hbit : (a >>> 7).toNat = a.toNat / 128 := by rw [BitVec.toNat_ushiftRight, Nat.shiftRight_eq_div_pow]
  have hlt : (a >>> 7).toNat < 2 := by have := a.isLt; omega
  rw [rlcaResult, toNat_shiftLeft_one_or hlt, hbit]

theorem rrcaResult_toNat (a : Byte) : (rrcaResult a).1.toNat = a.toNat / 2 + 128 * (a.toNat % 2) :=
  toNat_shiftRight_one_or a a

/-- RLA lets the old carry in at bit 0. -/
theorem rlaResult_toNat (a : Byte) (cf : Bool) : (rlaResult a cf).1.toNat = (2 * a.toNat + cf.toNat) % 256 := by
  cases cf <;> exact toNat_shiftLeft_one_or (by decide) a

/-- RRA lets the old carry in at bit 7. -/
theorem rraResult_toNat (a : Byte) (cf : Bool) : (rraResult a cf).1.toNat = a.toNat / 2 + 128 * cf.toNat := by
  cases cf with
  | false => exact toNat_shiftRight_one_or a 0
  | true => exact toNat_shiftRight_one_or a 1

/-- Settles O49: the four handlers differ only in the byte that A gets, whose number the lemmas above give. -/
theorem accumulatorRotates : Obligations.AccumulatorRotates := by
  refine ⟨⟨rfl, fun _ => rfl⟩, ⟨rfl, fun _ => rfl⟩, ⟨rfl, fun _ => rfl⟩, ⟨rfl, fun _ => rfl⟩, fun s => ?_⟩
  exact ⟨⟨_, exec_rlca s, rlcaResult_toNat s.a, flagsAre_of_f rfl, setA_setFlags_frame s _ _ _ _ _⟩,
    ⟨_, exec_rrca s, rrcaResult_toNat s.a, flagsAre_of_f rfl, setA_setFlags_frame s _ _ _ _ _⟩,
    ⟨_, exec_rla s, rlaResult_toNat s.a s.cf, flagsAre_of_f rfl, setA_setFlags_frame s _ _ _ _ _⟩,
    ⟨_, exec_rra s, rraResult_toNat s.a s.cf, flagsAre_of_f rfl, setA_setFlags_frame s _ _ _ _ _⟩⟩

/-! ## DAA -/

/-- A correction that is added or not. -/
theorem toNat_ite_add (b : Bool) (a k : Byte) :
    (if b then a + k else a).toNat = (a.toNat + if b then k.toNat else 0) % 256 := by
  cases b with
  | false => exact (Nat.mod_eq_of_lt a.isLt).symm
  | true => exact BitVec.toNat_add a k

/-- A correction that is subtracted or not. -/
theorem toNat_ite_sub (b : Bool) (a k : Byte) :
    ((if b then a - k else a).toNat : Int) = ((a.toNat : Int) - if b then (k.toNat : Int) else 0) % 256 := by
  have ha : a.toNat < 256 := a.isLt
  have hk : k.toNat < 256 := k.isLt
  cases b with
  | false =>
    simp only [Bool.false_eq_true, if_false]
    omega
  | true =>
    simp only [if_true, BitVec.toNat_sub]
    omega

/-- The high correction is a multiple of 16, so the low nibble is that of the old A. -/
theorem toNat_ite_add_high_mod (b : Bool) (a : Byte) : (if b then a + 0x60 else a).toNat % 16 = a.toNat % 16 := by
  cases b with
  | false => rfl
  | true =>
    simp only [if_true]
    bv_omega

/-- After an addition both corrections may be chosen from the old A. -/
theorem daaResult_toNat_of_add {nf : Bool} (h : nf = false) (a : Byte) (hf cf : Bool) :
    (daaResult a nf hf cf).1.toNat =
      (a.toNat + (if cf || decide (0x99 < a.toNat) then 0x60 else 0) +
        (if hf || decide (9 < a.toNat % 16) then 0x06 else 0)) % 256 := by
  simp only [daaResult, h, Bool.false_eq_true, if_false]
  rw [toNat_ite_add_high_mod, toNat_ite_add, toNat_ite_add, Nat.mod_add_mod]
  rfl

/-- After a subtraction the corrections are chosen from the flags alone. -/
theorem daaResult_toNat_of_sub {nf : Bool} (h : nf = true) (a : Byte) (hf cf : Bool) :
    ((daaResult a nf hf cf).1.toNat : Int) =
      ((a.toNat : Int) - (if cf then 0x60 else 0) - (if hf then 0x06 else 0)) % 256 := by
  simp only [daaResult, h, if_true]
  rw [toNat_ite_sub, toNat_ite_sub, Int.emod_sub_emod]
  rfl

theorem daaResult_carry (a : Byte) (nf hf cf : Bool) :
    (daaResult a nf hf cf).2 = if nf then cf else cf || decide (0x99 < a.toNat) := by
  cases nf <;> rfl

/-- Settles O50: A by the value of N, the flags by the carry of the correction. (The model's own `decimalAdjust` is the state update, so
the theorem is named in a space of its own.) -/
theorem Daa.decimalAdjust : Obligations.DecimalAdjust := by
  refine ⟨⟨rfl, fun _ => rfl⟩, fun s => ⟨_, exec_daa s, fun hadd => daaResult_toNat_of_add hadd s.a s.hf s.cf,
    fun hsub => daaResult_toNat_of_sub hsub s.a s.hf s.cf, ?flags, setA_setFlags_frame s _ _ _ _ _⟩⟩
  case flags =>
    rw [← daaResult_carry s.a s.nf s.hf s.cf]
    exact flagsAre_of_f rfl

/-! ## CPL, SCF and CCF -/

/-- Settles O51: CPL writes the complement to A; SCF and CCF leave in A the byte it had. -/
theorem complementAndCarry : Obligations.ComplementAndCarry := by
  refine ⟨⟨rfl, fun _ => rfl⟩, ⟨rfl, fun _ => rfl⟩, ⟨rfl, fun _ => rfl⟩, fun s => ?_⟩
  exact ⟨⟨_, exec_cpl s, BitVec.toNat_not, flagsAre_of_f rfl, setA_setFlags_frame s _ _ _ _ _⟩,
    ⟨_, exec_scf s, rfl, flagsAre_of_f rfl, setA_setFlags_frame s s.a _ _ _ _⟩,
    ⟨_, exec_ccf s, rfl, flagsAre_of_f rfl, setA_setFlags_frame s s.a _ _ _ _⟩⟩

end Sys2Proof.Machine
end

section
/-! The CB rotates, shifts and SWAP (45_cb_bitops.md R500 to R507): each handler writes one operand and sets the flags past the second
byte, so what is left to say is the written byte and its carry as numbers. -/

namespace Sys2Proof.Machine

theorem hasRow_rot (op : RotOp) (o : Operand8) :
    HasRow (Instr.rot op o) false fun _ => [0xCB, BitVec.ofNat 8 (8 * op.code + o.code)] := by
  cases op <;> rcases o with ⟨⟨⟩⟩ | _ <;> exact ⟨rfl, fun _ => rfl⟩

/-! ## The written byte as a number

The circular rotates and those through the carry write the byte of their accumulator forms (44_rotate_misc.md R450 to R453). -/

theorem toNat_shiftLeft_one (v : Byte) : (v <<< 1).toNat = 2 * v.toNat % 256 := by
  rw [BitVec.toNat_shiftLeft, Nat.shiftLeft_eq, Nat.mul_comm]

theorem toNat_shiftRight_one (v : Byte) : (v >>> 1).toNat = v.toNat / 2 := by
  rw [BitVec.toNat_ushiftRight, Nat.shiftRight_eq_div_pow, Nat.pow_one]

/-- SRA lets in at bit 7 the bit that was there: the lowest bit of the byte shifted right by seven. -/
theorem toNat_shiftRight_one_or_sign (v : Byte) :
    ((v >>> 1) ||| (v &&& 0x80)).toNat = v.toNat / 2 + 128 * (v.toNat / 128) := by
  have hsign : v &&& (0x80 : Byte) = v >>> 7 <<< 7 := (BitVec.shiftLeft_ushiftRight (x := v) (n := 7)).symm
  have hbit : (v >>> 7).toNat = v.toNat / 128 := by rw [BitVec.toNat_ushiftRight, Nat.shiftRight_eq_div_pow]
  have hlt : v.toNat < 256 := v.isLt
  rw [hsign, toNat_shiftRight_one_or, hbit]
  omega

/-- The nibbles share no place after the two shifts, so their OR is a sum. -/
theorem toNat_swap_nibbles (v : Byte) : ((v <<< 4) ||| (v >>> 4)).toNat = 16 * (v.toNat % 16) + v.toNat / 16 := by
  have hhigh : (v <<< 4).toNat = 2 ^ 4 * (v.toNat % 16) := by
    rw [BitVec.toNat_shiftLeft, Nat.shiftLeft_eq]
    omega
  have hlow : (v >>> 4).toNat = v.toNat / 16 := by rw [BitVec.toNat_ushiftRight, Nat.shiftRight_eq_div_pow]
  have hlt : v.toNat / 16 < 2 ^ 4 := by have := v.isLt; omega
  rw [BitVec.toNat_or, hhigh, hlow, ← Nat.two_pow_add_eq_or_of_lt hlt]

/-! ## The bit that leaves -/

theorem getLsbD_seven (v : Byte) : v.getLsbD 7 = decide (128 ≤ v.toNat) :=
  (BitVec.msb_eq_getLsbD_last v).symm.trans (BitVec.msb_eq_decide v)

theorem getLsbD_zero (v : Byte) : v.getLsbD 0 = decide (v.toNat % 2 = 1) :=
  (BitVec.testBit_toNat v).symm.trans (Nat.testBit_zero v.toNat)

/-- Settles O52: the handler by the write of an operand and the flags, its byte and its carry by the case of the operation. -/
theorem cbRotatesAndShifts : Obligations.CbRotatesAndShifts := by
  refine fun op o => ⟨hasRow_rot op o, fun s => ?_⟩
  intro v r c
  have hresult : (rotResult op (s.operand o) s.cf).1.toNat = r := by
    cases op with
    | rlc => exact rlcaResult_toNat (s.operand o)
    | rrc => exact rrcaResult_toNat (s.operand o)
    | rl => exact rlaResult_toNat (s.operand o) s.cf
    | rr => exact rraResult_toNat (s.operand o) s.cf
    | sla => exact toNat_shiftLeft_one (s.operand o)
    | sra => exact toNat_shiftRight_one_or_sign (s.operand o)
    | swap => exact toNat_swap_nibbles (s.operand o)
    | srl => exact toNat_shiftRight_one (s.operand o)
  have hcarry : (rotResult op (s.operand o) s.cf).2 = c := by
    cases op with
    | rlc | rl | sla => exact getLsbD_seven (s.operand o)
    | rrc | rr | sra | srl => exact getLsbD_zero (s.operand o)
    | swap => rfl
  have hbyte : BitVec.ofNat 8 r = (rotResult op (s.operand o) s.cf).1 := by
    rw [← hresult, BitVec.ofNat_toNat, BitVec.setWidth_eq]
  have hlt : r < 256 := hresult ▸ (rotResult op (s.operand o) s.cf).1.isLt
  obtain ⟨t, hexec, heffect⟩ := completes_of_setOperand_setFlags (s.pc + 1) (exec_rot op o s)
  rw [isZero_eq_decide_toNat, hresult, hcarry, ← hbyte] at heffect
  exact ⟨t, hexec, hlt, heffect⟩

end Sys2Proof.Machine
end

section
/-! BIT, RES and SET (45_cb_bitops.md R510 to R512): all three work on one bit of the operand through `bitMask`, which is a power of two.
BIT writes the flags alone, RES and SET the operand alone. -/

namespace Sys2Proof.Machine

/-! ## Rows (30_encoding.md R133) -/

theorem hasRow_bit (b : Oct) (o : Operand8) :
    HasRow (Instr.bit b o) false fun _ => [0xCB, BitVec.ofNat 8 (0x40 + 8 * b.toNat + o.code)] := by
  cases b <;> rcases o with ⟨⟨⟩⟩ | _ <;> exact ⟨rfl, fun _ => rfl⟩

theorem hasRow_res (b : Oct) (o : Operand8) :
    HasRow (Instr.res b o) false fun _ => [0xCB, BitVec.ofNat 8 (0x80 + 8 * b.toNat + o.code)] := by
  cases b <;> rcases o with ⟨⟨⟩⟩ | _ <;> exact ⟨rfl, fun _ => rfl⟩

theorem hasRow_set (b : Oct) (o : Operand8) :
    HasRow (Instr.set b o) false fun _ => [0xCB, BitVec.ofNat 8 (0xC0 + 8 * b.toNat + o.code)] := by
  cases b <;> rcases o with ⟨⟨⟩⟩ | _ <;> exact ⟨rfl, fun _ => rfl⟩

/-! ## One bit of a byte -/

theorem bitMask_eq_twoPow (b : Oct) : bitMask b = BitVec.twoPow 8 b.toNat := by
  cases b <;> rfl

theorem bitMask_ne_zero (b : Oct) : bitMask b ≠ 0 := by
  cases b <;> decide

theorem getLsbD_bitMask (b : Oct) (k : Nat) : (bitMask b).getLsbD k = decide (k = b.toNat) := by
  have hlt : b.toNat < 8 := by cases b <;> decide
  rw [bitMask_eq_twoPow, BitVec.getLsbD_twoPow, decide_eq_true hlt, Bool.true_and, decide_eq_decide]
  exact eq_comm

theorem bitIsClear_eq_not_getLsbD (v : Byte) (b : Oct) : bitIsClear v b = !v.getLsbD b.toNat := by
  rw [bitIsClear, bitMask_eq_twoPow, BitVec.and_twoPow, ← bitMask_eq_twoPow]
  cases v.getLsbD b.toNat with
  | false => rfl
  | true => exact beq_false_of_ne (bitMask_ne_zero b)

theorem getLsbD_clearBit (v : Byte) (b : Oct) {k : Nat} (hk : k < 8) :
    (clearBit v b).getLsbD k = if k = b.toNat then false else v.getLsbD k := by
  rw [clearBit, BitVec.getLsbD_and, BitVec.getLsbD_not, getLsbD_bitMask, decide_eq_true hk]
  by_cases h : k = b.toNat <;> simp [h]

theorem getLsbD_setBit (v : Byte) (b : Oct) (k : Nat) :
    (setBit v b).getLsbD k = if k = b.toNat then true else v.getLsbD k := by
  rw [setBit, BitVec.getLsbD_or, getLsbD_bitMask]
  by_cases h : k = b.toNat <;> simp [h]

/-! ## A handler that writes an operand alone -/

/-- A handler that moves pc past one byte and writes an operand, F unchanged. -/
theorem completes_of_advance_setOperand {i : Instr} {s : State} {o : Operand8} {v : Byte}
    (hexec : exec i s = .next ((s.advance 1).setOperand o v)) :
    Completes i s fun t =>
      OperandWritten o v s t ∧ t.f = s.f ∧ t.sp = s.sp ∧ t.pc = s.pc + 1 ∧ SameControl s t :=
  ⟨_, hexec,
    (operandWritten_setOperand o v (s.advance 1)).transport (fun r => (s.advance_reg 1 r).symm) rfl (fun _ => rfl) rfl,
    State.setOperand_f _ o v, State.setOperand_sp _ o v, State.setOperand_pc _ o v,
    (sameControl_advance s 1).trans (sameControl_setOperand _ o v)⟩

/-! ## The statements -/

/-- Settles O53: the flags are the only write, and Zero is the complement of the tested bit. -/
theorem bitTest : Obligations.BitTest := by
  refine fun b o => ⟨hasRow_bit b o, fun s => ⟨_, exec_bit b o s, ?flags, ?regs, rfl, rfl, ?control, sameMemory_of_mem rfl⟩⟩
  case flags =>
    rw [← bitIsClear_eq_not_getLsbD]
    exact flagsAre_of_f rfl
  case regs => exact (sameRegsBut_advance s 1).trans (sameRegsBut_setFlags _ _ _ _ _)
  case control => exact (sameControl_advance s 1).trans (sameControl_setFlags _ _ _ _ _)

/-- Settles O54: RES writes the operand with the bit cleared, SET with the bit set. -/
theorem bitResetAndSet : Obligations.BitResetAndSet := by
  intro b o on
  cases on with
  | false =>
    refine ⟨hasRow_res b o, fun s => ?_⟩
    obtain ⟨t, hexec, hwritten, hframe⟩ := completes_of_advance_setOperand (exec_res b o s)
    exact ⟨t, hexec, ⟨_, fun k hk => getLsbD_clearBit (s.operand o) b hk, hwritten⟩, hframe⟩
  | true =>
    refine ⟨hasRow_set b o, fun s => ?_⟩
    obtain ⟨t, hexec, hwritten, hframe⟩ := completes_of_advance_setOperand (exec_set b o s)
    exact ⟨t, hexec, ⟨_, fun k _ => getLsbD_setBit (s.operand o) b k, hwritten⟩, hframe⟩

end Sys2Proof.Machine
end

section
/-! Control transfer (46_control.md R550 to R560): the rows of its forms (30_encoding.md R129, R131), none of them in DOC. -/

namespace Sys2Proof.Machine

theorem hasRow_jrCond (cc : Cond) (e : Byte) :
    HasRow (Instr.jrCond cc e) false fun _ => [BitVec.ofNat 8 (0x20 + 8 * cc.code), e] := by
  cases cc <;> exact ⟨rfl, fun _ => rfl⟩

theorem hasRow_jpCond (cc : Cond) (nn : Word) :
    HasRow (Instr.jpCond cc nn) false fun o => BitVec.ofNat 8 (0xC2 + 8 * cc.code) :: wordBytes o nn := by
  cases cc <;> exact ⟨rfl, fun _ => rfl⟩

theorem hasRow_callCond (cc : Cond) (nn : Word) :
    HasRow (Instr.callCond cc nn) false fun o => BitVec.ofNat 8 (0xC4 + 8 * cc.code) :: wordBytes o nn := by
  cases cc <;> exact ⟨rfl, fun _ => rfl⟩

theorem hasRow_retCond (cc : Cond) : HasRow (Instr.retCond cc) false fun _ => [BitVec.ofNat 8 (0xC0 + 8 * cc.code)] := by
  cases cc <;> exact ⟨rfl, fun _ => rfl⟩

theorem hasRow_rst (t : Oct) : HasRow (Instr.rst t) false fun _ => [BitVec.ofNat 8 (0xC7 + 8 * t.toNat)] := by
  cases t <;> exact ⟨rfl, fun _ => rfl⟩

end Sys2Proof.Machine
end

section
/-! CALL nn, CALL cc,nn and RST t (46_control.md R555, R556, R560): each that is taken moves pc to the return address, pushes it and
goes to its target. -/

namespace Sys2Proof.Machine

/-- A handler that moves pc, pushes a word and goes to a target; with `pc = s.pc` the state `s.jump pc` is `s` itself. -/
theorem completes_of_push16_jump {i : Instr} {s : State} {pc ret target : Word}
    (hexec : exec i s = .next (((s.jump pc).push16 ret).jump target)) :
    Completes i s fun t =>
      t.pc = target ∧ t.sp = s.sp - 2 ∧ t.readByte (s.sp - 1) = hi8 ret ∧ t.readByte (s.sp - 2) = lo8 ret ∧
        SameMemoryBut [s.sp - 1, s.sp - 2] s t ∧ SameRegsBut [] s t ∧ t.f = s.f ∧ SameControl s t :=
  ⟨_, hexec, rfl, rfl, (s.jump pc).readByte_push16_high ret, (s.jump pc).readByte_push16_low ret,
    sameMemoryBut_push16 (s.jump pc) ret,
    ((sameRegsBut_jump s pc).trans (sameRegsBut_push16 _ ret)).trans (sameRegsBut_jump _ target), rfl,
    ((sameControl_jump s pc).trans (sameControl_push16 _ ret)).trans (sameControl_jump _ target)⟩

theorem exec_callCond_of_cond {cc : Cond} {s : State} (h : s.cond cc = true) (nn : Word) :
    exec (Instr.callCond cc nn) s = .next (callAbs nn s) :=
  (exec_callCond cc nn s).trans (congrArg Host.Outcome.next (if_pos h))

theorem exec_callCond_of_not_cond {cc : Cond} {s : State} (h : s.cond cc = false) (nn : Word) :
    exec (Instr.callCond cc nn) s = .next (s.advance 2) :=
  (exec_callCond cc nn s).trans (congrArg Host.Outcome.next (if_neg (Bool.eq_false_iff.mp h)))

theorem rstTarget_eq_ofNat (t : Oct) : rstTarget t = BitVec.ofNat 16 (8 * t.toNat) := by
  cases t <;> rfl

/-- Settles O57: the calls push the address after their immediate, RST the address it finds in pc. -/
theorem callsAndRestarts : Obligations.CallsAndRestarts := by
  refine fun cc nn t => ⟨⟨rfl, fun _ => rfl⟩, hasRow_callCond cc nn, hasRow_rst t, fun s => ?_⟩
  refine ⟨completes_of_push16_jump (exec_callA16 nn s), fun htaken => ?taken, fun huntaken => ?untaken, ?rst⟩
  case taken => exact completes_of_push16_jump (exec_callCond_of_cond htaken nn)
  case untaken => exact exec_callCond_of_not_cond huntaken nn
  case rst =>
    rw [← rstTarget_eq_ofNat]
    exact completes_of_push16_jump (pc := s.pc) (exec_rst t s)

end Sys2Proof.Machine
end

section
/-! The jumps (46_control.md R550 to R554): a conditional one is a jump too, to its target or to the address after its immediate. -/

namespace Sys2Proof.Machine

theorem jumpAbsIf_eq_jump (cc : Cond) (nn : Word) (s : State) :
    jumpAbsIf cc nn s = s.jump (if s.cond cc then nn else s.pc + 2) :=
  (apply_ite s.jump (s.cond cc = true) nn (s.pc + 2)).symm

theorem jumpRelIf_eq_jump (cc : Cond) (e : Byte) (s : State) :
    jumpRelIf cc e s = s.jump (if s.cond cc then s.pc + 1 + sext16 e else s.pc + 1) :=
  (apply_ite s.jump (s.cond cc = true) (s.pc + 1 + sext16 e) (s.pc + 1)).symm

/-- Settles O56: each handler is one jump, the relative ones by the displacement as a signed word. -/
theorem jumps : Obligations.Jumps := by
  refine fun cc nn e => ⟨⟨rfl, fun _ => rfl⟩, hasRow_jpCond cc nn, ⟨rfl, fun _ => rfl⟩, ⟨rfl, fun _ => rfl⟩,
    hasRow_jrCond cc e, fun s => ?_⟩
  exact ⟨exec_jpA16 nn s, (exec_jpCond cc nn s).trans (congrArg Host.Outcome.next (jumpAbsIf_eq_jump cc nn s)), exec_jpHl s,
    exec_jrE8 e s, (exec_jrCond cc e s).trans (congrArg Host.Outcome.next (jumpRelIf_eq_jump cc e s))⟩

end Sys2Proof.Machine
end

section
/-! RET, RET cc and RETI (46_control.md R557 to R559): each that is taken pops pc, RETI also setting IME. -/

namespace Sys2Proof.Machine

/-- RET pops pc and writes nothing else: the word at the top of the stack has its high byte at sp + 1. -/
theorem returnSub_eq_pop (s : State) :
    returnSub s = { s with pc := joinBytes (s.readByte (s.sp + 1)) (s.readByte s.sp), sp := s.sp + 2 } := rfl

/-- RETI is RET with IME set and no EI pending. -/
theorem interruptReturn_eq_returnSub (s : State) :
    s.interruptReturn = { returnSub s with ime := true, imePending := false } := rfl

/-- Settles O58: the three handlers by the return they share. -/
theorem returns : Obligations.Returns := by
  refine fun cc => ⟨⟨rfl, fun _ => rfl⟩, hasRow_retCond cc, ⟨rfl, fun _ => rfl⟩, fun s => ⟨?ret, ?retCond, ?reti⟩⟩
  case ret => exact (exec_ret s).trans (congrArg Host.Outcome.next (returnSub_eq_pop s))
  case retCond =>
    rw [← returnSub_eq_pop]
    exact exec_retCond cc s
  case reti => exact (exec_reti s).trans (congrArg Host.Outcome.next (interruptReturn_eq_returnSub s))

end Sys2Proof.Machine
end

section
/-! The eleven holes of the opcode map (47_system.md R603): the byte of each, its row, and what raising its error leaves. -/

namespace Sys2Proof.Machine

/-- The row of a hole, whatever follows its byte: the byte is one of the list of 30_encoding.md R132, is the hole's whole encoding,
outside DOC, and is decoded to the hole under both profiles. -/
theorem holeByte_row {i : Instr} (h : i.isHole = true) :
    holeByte i ∈ ([0xD3, 0xDB, 0xDD, 0xE3, 0xE4, 0xEB, 0xEC, 0xED, 0xF4, 0xFC, 0xFD] : List Byte) ∧
      HasRow i false (fun _ => [holeByte i]) ∧ ∀ p o b1 b2, decode p o (holeByte i) b1 b2 = .instr i := by
  rcases isHole_cases h with rfl | rfl | rfl | rfl | rfl | rfl | rfl | rfl | rfl | rfl | rfl <;>
    exact ⟨by decide, ⟨rfl, fun _ => rfl⟩, fun p _ _ _ => by cases p <;> rfl⟩

/-- A hole writes last_error and run_state and nothing else, with pc still at its address. -/
theorem hole_eq_stopped (byte : Byte) (s : State) :
    hole byte s = { s with lastError := some ⟨.decodeFailure, byte, s.pc⟩, runState := .stopped } := rfl

/-- Settles O21: the byte that the encoder gives the hole is the one it is decoded from and the one its error records. -/
theorem holesRaiseDecodeFailure : Obligations.HolesRaiseDecodeFailure := by
  intro i hi
  obtain ⟨hmem, hrow, hdecode⟩ := holeByte_row hi
  refine ⟨holeByte i, hmem, hrow, hdecode, fun s => ?_⟩
  exact (exec_hole hi s).trans (congrArg Host.Outcome.next (hole_eq_stopped (holeByte i) s))

end Sys2Proof.Machine
end

section
/-! The system instructions (47_system.md R600 to R605): NOP, STOP, DI, EI and HALT. -/

namespace Sys2Proof.Machine

/-- STOP passes its second byte and stops the core; it records no error. -/
theorem stopCore_eq_stopped (s : State) : stopCore s = { s with pc := s.pc + 1, runState := .stopped } := rfl

/-- Settles O59: each handler's one update of the state, EI's being the pending bit alone. -/
theorem nopStopDiEi : Obligations.NopStopDiEi := by
  refine ⟨⟨rfl, fun _ => rfl⟩, fun _ => ⟨rfl, fun _ => rfl⟩, ⟨rfl, fun _ => rfl⟩, ⟨rfl, fun _ => rfl⟩, fun s => ?_⟩
  exact ⟨exec_nop s, fun x => (exec_stop x s).trans (congrArg Host.Outcome.next (stopCore_eq_stopped s)), exec_di s, exec_ei s⟩

/-- The halt bug (47_system.md R601): HALT does not halt, and the core stays as it is but for halt_bug. -/
theorem haltCore_of_haltBug {s : State} (h : s.params.profile = .full ∧ s.ime = false ∧ s.irqNow ≠ none) :
    haltCore s = { s with haltBug := true } := if_pos h

theorem haltCore_of_not_haltBug {s : State} (h : ¬(s.params.profile = .full ∧ s.ime = false ∧ s.irqNow ≠ none)) :
    haltCore s = { s with runState := .halted } := if_neg h

/-- Settles O60: HALT by the condition of the halt bug; a core under DOC never meets it. -/
theorem haltOrHaltBug : Obligations.HaltOrHaltBug := by
  refine ⟨⟨rfl, fun _ => rfl⟩, fun s => ⟨fun hbug => ?haltBug, fun hbug => ?halted⟩⟩
  case haltBug => exact (exec_halt s).trans (congrArg Host.Outcome.next (haltCore_of_haltBug hbug))
  case halted => exact (exec_halt s).trans (congrArg Host.Outcome.next (haltCore_of_not_haltBug hbug))

end Sys2Proof.Machine
end

section
/-! The decoders, row by row (30_encoding.md R121, R129 to R134): a byte is its three fields, so what is said of every byte is checked
for each quadrant op and each pair of 3-bit fields x and y, with the bytes after it left open. -/

namespace Sys2Proof.Machine

/-! ## A byte as its fields -/

theorem ofNat_fields (c : Byte) : BitVec.ofNat 8 (64 * opField c + 8 * xField c + yField c) = c := by
  have h : 64 * opField c + 8 * xField c + yField c = c.toNat := by
    simp only [opField, xField, yField]
    omega
  rw [h, BitVec.ofNat_toNat, BitVec.setWidth_eq]

theorem Oct.toNat_ofCode {n : Nat} (h : n < 8) : (Oct.ofCode n).toNat = n := by
  interval_cases n <;> rfl

/-- A statement holds of every byte if it holds of every choice of the three fields. -/
theorem byFields {P : Byte → Prop} (h : ∀ (op : Fin 4) (x y : Oct), P (BitVec.ofNat 8 (64 * op.val + 8 * x.toNat + y.toNat)))
    (c : Byte) : P c := by
  have hop : opField c < 4 := Nat.div_lt_of_lt_mul c.isLt
  have hx : xField c < 8 := Nat.mod_lt _ (by decide)
  have hy : yField c < 8 := Nat.mod_lt _ (by decide)
  have key := h ⟨opField c, hop⟩ (Oct.ofCode (xField c)) (Oct.ofCode (yField c))
  rwa [Oct.toNat_ofCode hx, Oct.toNat_ofCode hy, ofNat_fields] at key

/-! ## The base rows -/

/-- Whether a base row is in DOC and whether it is a hole depend on its opcode byte alone. -/
theorem decodeBase_class (o : WordOrder) (c b1 b2 : Byte) :
    (decodeBase o c b1 b2).inDoc = (decodeBase o c 0 0).inDoc ∧ (decodeBase o c b1 b2).isHole = (decodeBase o c 0 0).isHole := by
  cases c using byFields with
  | h op x y => fin_cases op <;> cases x <;> cases y <;> exact ⟨rfl, rfl⟩

/-- The bytes of a base row are its opcode byte and the immediate that its length says it has. -/
theorem encode_decodeBase_immediate (o : WordOrder) (c b1 b2 : Byte) :
    encode o (decodeBase o c b1 b2) =
      (c :: if (decodeBase o c b1 b2).length = 2 then [b1] else wordBytes o (wordOfBytes o b1 b2)).take
        (decodeBase o c b1 b2).length := by
  cases c using byFields with
  | h op x y => fin_cases op <;> cases x <;> cases y <;> rfl

theorem wordBytes_wordOfBytes (o : WordOrder) (b1 b2 : Byte) : wordBytes o (wordOfBytes o b1 b2) = [b1, b2] := by
  rw [wordBytes, firstByte_wordOfBytes, secondByte_wordOfBytes]

/-- The encoder gives a base row back the bytes it is decoded from, as many as its length. -/
theorem encode_decodeBase (o : WordOrder) (c b1 b2 : Byte) :
    encode o (decodeBase o c b1 b2) = [c, b1, b2].take (decodeBase o c b1 b2).length := by
  rw [encode_decodeBase_immediate, wordBytes_wordOfBytes]
  split
  case isTrue hlength =>
    rw [hlength]
    rfl
  case isFalse => rfl

/-- 0xCB is the only byte whose base row runs a CB row. -/
theorem eq_of_decodeBase_eq_prefixCb {o : WordOrder} {c b1 b2 : Byte} (h : decodeBase o c b1 b2 = .prefixCb) : c = 0xCB := by
  have hbytes := encode_decodeBase o c b1 b2
  rw [h] at hbytes
  exact (List.cons.inj hbytes).1.symm

theorem isComplete_of_ne {i : Instr} (h : i ≠ .prefixCb) : i.isComplete = true := by
  unfold Instr.isComplete
  split
  · exact absurd rfl h
  · rfl

/-! ## The CB space -/

/-- A row of the CB space is a complete instruction of two bytes, outside DOC and no hole. -/
theorem decodeCb_class (c : Byte) :
    (decodeCb c).isComplete = true ∧ (decodeCb c).length = 2 ∧ (decodeCb c).inDoc = false ∧ (decodeCb c).isHole = false := by
  cases c using byFields with
  | h op x y => fin_cases op <;> cases x <;> cases y <;> exact ⟨rfl, rfl, rfl, rfl⟩

theorem encode_decodeCb (c : Byte) (o : WordOrder) : encode o (decodeCb c) = [0xCB, c] := by
  cases c using byFields with
  | h op x y => fin_cases op <;> cases x <;> cases y <;> rfl

/-- The row that a second byte selects runs as the handler of 0xCB dispatches that byte. -/
theorem exec_decodeCb (c : Byte) (s : State) : exec (decodeCb c) s = .next (cbRow c s) := by
  unfold decodeCb cbRow
  generalize opField c = op
  match op with
  | 0 => exact exec_rot _ _ s
  | 1 => exact exec_bit _ _ s
  | 2 => exact exec_res _ _ s
  | _ + 3 => exact exec_set _ _ s

/-- Settles O55: the bytes of a CB row by its fields, and the handler of 0xCB by the row of the byte it reads. -/
theorem prefixRunsSecondByte : Obligations.PrefixRunsSecondByte :=
  ⟨⟨rfl, fun _ => rfl⟩, encode_decodeCb, fun s => ⟨_, exec_prefixCb s, exec_decodeCb (s.readByte s.pc) s⟩⟩

/-! ## FULL -/

/-- FULL decodes every byte: 0xCB to the CB row of the byte after it, any other to its base row. -/
theorem decode_full_cases (o : WordOrder) (c b1 b2 : Byte) :
    (c = 0xCB ∧ decode .full o c b1 b2 = .instr (decodeCb b1)) ∨
      ((decodeBase o c b1 b2).isComplete = true ∧ decode .full o c b1 b2 = .instr (decodeBase o c b1 b2)) := by
  by_cases h : decodeBase o c b1 b2 = .prefixCb
  · obtain rfl := eq_of_decodeBase_eq_prefixCb h
    exact .inl ⟨rfl, decode_prefixed o b1 b2⟩
  · exact .inr ⟨isComplete_of_ne h, decode_full h⟩

theorem wellFormed_full (i : Instr) : i.wellFormed .full = i.isComplete := Bool.and_true _

/-- Settles O8: the bytes of the row that FULL answers, in the CB space and outside it. -/
theorem encodeOfDecode : Obligations.EncodeOfDecode := by
  intro o c b1 b2
  rcases decode_full_cases o c b1 b2 with ⟨rfl, hdecode⟩ | ⟨hcomplete, hdecode⟩
  · obtain ⟨hcomplete, hlength, -, -⟩ := decodeCb_class b1
    exact ⟨_, hdecode, (wellFormed_full _).trans hcomplete, by rw [encode_decodeCb, hlength]; rfl⟩
  · exact ⟨_, hdecode, (wellFormed_full _).trans hcomplete, encode_decodeBase o c b1 b2⟩

/-! ## DOC -/

/-- The pattern list of DOC and the classification after it answer the base row where that row is in DOC or a hole, and Unimplemented
elsewhere. -/
theorem decodeDoc_eq (o : WordOrder) (c b1 b2 : Byte) :
    decodeDoc o c b1 b2 =
      if (decodeBase o c b1 b2).inDoc || (decodeBase o c b1 b2).isHole then .instr (decodeBase o c b1 b2)
      else .unimplemented c := by
  cases c using byFields with
  | h op x y => fin_cases op <;> cases x <;> cases y <;> rfl

/-- DOC reads no second byte: 0xCB is no row of it. -/
theorem decode_doc (o : WordOrder) (c b1 b2 : Byte) :
    decode .doc o c b1 b2 =
      if (decodeBase o c b1 b2).inDoc || (decodeBase o c b1 b2).isHole then .instr (decodeBase o c b1 b2)
      else .unimplemented c := by
  rw [← decodeDoc_eq]
  simp only [decode, decodeOpcode]
  split
  case h_1 hprefix =>
    rw [decodeDoc_eq] at hprefix
    split at hprefix
    case isTrue hdoc =>
      rw [Decoded.instr.inj hprefix] at hdoc
      exact absurd hdoc (by decide)
    case isFalse => cases hprefix
  case h_2 => rfl

/-- Settles O9: both decoders answer from the base row of the byte, but for 0xCB under FULL, whose row DOC does not have. -/
theorem docDecoderRestrictsFull : Obligations.DocDecoderRestrictsFull := by
  intro o c b1 b2
  rcases decode_full_cases o c b1 b2 with ⟨rfl, hdecode⟩ | ⟨-, hdecode⟩
  · obtain ⟨-, -, hdoc, hhole⟩ := decodeCb_class b1
    exact ⟨_, hdecode, by rw [hdoc, hhole]; rfl⟩
  · exact ⟨_, hdecode, decode_doc o c b1 b2⟩

/-- An answer of the decoder for a byte: Unimplemented only under DOC and with the byte itself. -/
theorem decode_eq_unimplemented {p : Profile} {o : WordOrder} {c b1 b2 byte : Byte}
    (h : decode p o c b1 b2 = .unimplemented byte) : p = .doc ∧ byte = c := by
  obtain ⟨i, hfull, hdoc⟩ := docDecoderRestrictsFull o c b1 b2
  cases p with
  | full => cases hfull.symm.trans h
  | doc =>
    rw [h] at hdoc
    split at hdoc
    case isTrue => cases hdoc
    case isFalse => exact ⟨rfl, Decoded.unimplemented.inj hdoc⟩

/-- Under DOC an instruction that is decoded is in the DOC set or a hole. -/
theorem decode_doc_eq_instr {o : WordOrder} {c b1 b2 : Byte} {i : Instr} (h : decode .doc o c b1 b2 = .instr i) :
    i.inDoc = true ∨ i.isHole = true := by
  rw [decode_doc] at h
  split at h
  case isTrue hclass =>
    rw [← Decoded.instr.inj h]
    exact (Bool.or_eq_true _ _).mp hclass
  case isFalse => cases h

end Sys2Proof.Machine
end

section
/-! The encoder, form by form, against the decoders (30_encoding.md R128, R134, R137). -/

namespace Sys2Proof.Machine

/-- The bytes `bytes` and any `rest` after them are decoded to `i` under FULL, all of `bytes` being its own. -/
def FullDecodes (o : WordOrder) (i : Instr) (rest : List Byte) : List Byte → Prop
  | [] => False
  | c :: tail =>
    i.length = tail.length + 1 ∧ decode .full o c ((tail ++ rest).getD 0 0) ((tail ++ rest).getD 1 0) = .instr i

/-- A row with a 16-bit immediate, from what the decoder makes of the two bytes in WORD_ORDER. -/
theorem fullDecodes_of_word {o : WordOrder} {c : Byte} {row : Word → Instr} (nn : Word) (rest : List Byte)
    (hlength : (row nn).length = 3) (hdecode : ∀ b1 b2, decode .full o c b1 b2 = .instr (row (wordOfBytes o b1 b2))) :
    FullDecodes o (row nn) rest (c :: wordBytes o nn) :=
  ⟨hlength, (hdecode _ _).trans (congrArg (Decoded.instr ∘ row) (wordOfBytes_bytes o nn))⟩

/-- A row of the CB space, from what its second byte selects. -/
theorem fullDecodes_of_cb {o : WordOrder} {c : Byte} {i : Instr} (rest : List Byte) (h : decodeCb c = i) :
    FullDecodes o i rest [0xCB, c] := by
  subst h
  obtain ⟨-, hlength, -, -⟩ := decodeCb_class c
  exact ⟨hlength, decode_prefixed o c _⟩

theorem fullDecodes_encode (o : WordOrder) (i : Instr) (rest : List Byte) (h : i.isComplete = true) :
    FullDecodes o i rest (encode o i) := by
  cases i using Instr.byForm with
  | ldRegReg dst src => cases dst <;> cases src <;> exact ⟨rfl, rfl⟩
  | ldRegImm dst n => cases dst <;> exact ⟨rfl, rfl⟩
  | ldRegAtHl dst => cases dst <;> exact ⟨rfl, rfl⟩
  | ldAtHlReg r => cases r <;> exact ⟨rfl, rfl⟩
  | ldPairImm p nn =>
    rw [(hasRow_ldPairImm p nn).2]
    exact fullDecodes_of_word nn rest (length_ldPairImm p nn) (decode_ldPairImm .full o p)
  | incPair p => cases p <;> exact ⟨rfl, rfl⟩
  | decPair p => cases p <;> exact ⟨rfl, rfl⟩
  | addHlPair p => cases p <;> exact ⟨rfl, rfl⟩
  | push p => cases p <;> exact ⟨rfl, rfl⟩
  | pop p => cases p <;> exact ⟨rfl, rfl⟩
  | alu op x => cases op <;> rcases x with ⟨⟨⟩⟩ | _ <;> exact ⟨rfl, rfl⟩
  | aluImm op n => cases op <;> exact ⟨rfl, rfl⟩
  | incOp x => rcases x with ⟨⟨⟩⟩ | _ <;> exact ⟨rfl, rfl⟩
  | decOp x => rcases x with ⟨⟨⟩⟩ | _ <;> exact ⟨rfl, rfl⟩
  | jrCond cc e => cases cc <;> exact ⟨rfl, rfl⟩
  | jpCond cc nn => cases cc <;> exact fullDecodes_of_word nn rest rfl fun _ _ => rfl
  | callCond cc nn => cases cc <;> exact fullDecodes_of_word nn rest rfl fun _ _ => rfl
  | retCond cc => cases cc <;> exact ⟨rfl, rfl⟩
  | rst t => cases t <;> exact ⟨rfl, rfl⟩
  | rot op x => cases op <;> rcases x with ⟨⟨⟩⟩ | _ <;> exact fullDecodes_of_cb rest rfl
  | bit b x => cases b <;> rcases x with ⟨⟨⟩⟩ | _ <;> exact fullDecodes_of_cb rest rfl
  | res b x => cases b <;> rcases x with ⟨⟨⟩⟩ | _ <;> exact fullDecodes_of_cb rest rfl
  | set b x => cases b <;> rcases x with ⟨⟨⟩⟩ | _ <;> exact fullDecodes_of_cb rest rfl
  | ldAtA16Sp nn => exact fullDecodes_of_word nn rest rfl fun _ _ => rfl
  | jpA16 nn => exact fullDecodes_of_word nn rest rfl fun _ _ => rfl
  | callA16 nn => exact fullDecodes_of_word nn rest rfl fun _ _ => rfl
  | ldAtA16A nn => exact fullDecodes_of_word nn rest rfl fun _ _ => rfl
  | ldAAtA16 nn => exact fullDecodes_of_word nn rest rfl fun _ _ => rfl
  | prefixCb => cases h
  | hole i hi =>
    rcases isHole_cases hi with rfl | rfl | rfl | rfl | rfl | rfl | rfl | rfl | rfl | rfl | rfl <;> exact ⟨rfl, rfl⟩
  | _ => exact ⟨rfl, rfl⟩

/-- A profile decodes what FULL decodes, if it has the row. -/
theorem decode_of_full {p : Profile} {o : WordOrder} {c b1 b2 : Byte} {i : Instr} (hfull : decode .full o c b1 b2 = .instr i)
    (h : i.isInProfile p = true) : decode p o c b1 b2 = .instr i := by
  cases p with
  | full => exact hfull
  | doc =>
    obtain ⟨j, hj, hdoc⟩ := docDecoderRestrictsFull o c b1 b2
    obtain rfl := Decoded.instr.inj (hj.symm.trans hfull)
    exact hdoc.trans (if_pos h)

/-- What a profile decodes, FULL decodes. -/
theorem decode_full_of_decode {p : Profile} {o : WordOrder} {c b1 b2 : Byte} {i : Instr} (h : decode p o c b1 b2 = .instr i) :
    decode .full o c b1 b2 = .instr i := by
  cases p with
  | full => exact h
  | doc =>
    obtain ⟨j, hj, hdoc⟩ := docDecoderRestrictsFull o c b1 b2
    rw [h] at hdoc
    split at hdoc
    case isTrue => exact hj.trans hdoc.symm
    case isFalse => cases hdoc

/-- Settles O7: the bytes of the instruction as FULL decodes them, and the profile by its rows. -/
theorem decodeOfEncode : Obligations.DecodeOfEncode := by
  intro p o i rest h
  obtain ⟨hcomplete, hprofile⟩ := Bool.and_eq_true_iff.mp h
  have key := fullDecodes_encode o i rest hcomplete
  cases hbytes : encode o i with
  | nil =>
    rw [hbytes] at key
    exact key.elim
  | cons c tail =>
    rw [hbytes] at key
    obtain ⟨hlength, hdecode⟩ := key
    rw [List.cons_append, decodeBytes_cons (decode_of_full hdecode hprofile) (by simp [hlength]), hlength, Nat.add_sub_cancel,
      List.drop_left]

end Sys2Proof.Machine
end

section
/-! What an instruction may write, form by form: the control fields (10_state.md R42 to R46), F (R40) and memory (20_memory.md R94), with
what F and memory are like where they are written, and where pc is left (30_encoding.md R144). -/

namespace Sys2Proof.Machine

/-- What a completed handler does, it does in the only next state it answers. -/
theorem Completes.of_exec {i : Instr} {s t : State} {P : State → Prop} (h : Completes i s P) (hexec : exec i s = .next t) : P t := by
  obtain ⟨u, hu, hP⟩ := h
  cases hu.symm.trans hexec
  exact hP

/-- A field that both outcomes of a row keep. -/
theorem field_ite_eq {α : Type} (field : State → α) {s t u : State} {c : Prop} [Decidable c] (ht : field t = field s)
    (hu : field u = field s) : field (if c then t else u) = field s := by
  split <;> assumption

theorem haltCore_ime (s : State) : (haltCore s).ime = s.ime := field_ite_eq State.ime rfl rfl

theorem haltCore_imePending (s : State) : (haltCore s).imePending = s.imePending := field_ite_eq State.imePending rfl rfl

/-! ## The control fields -/

/-- The instructions that write anything but the register file, sp, pc and memory. -/
def WritesControl (i : Instr) : Prop :=
  i = .halt ∨ (∃ x, i = .stop x) ∨ i = .di ∨ i = .ei ∨ i = .reti ∨ i.isHole = true

theorem SameControl.ite {s t u : State} {c : Prop} [Decidable c] (ht : SameControl s t) (hu : SameControl s u) :
    SameControl s (if c then t else u) := by
  split <;> assumption

theorem sameControl_setOperand_setFlags (s : State) (o : Operand8) (v : Byte) (z n h c : Bool) :
    SameControl s ((s.setOperand o v).setFlags z n h c) :=
  (sameControl_setOperand s o v).trans (sameControl_setFlags _ z n h c)

theorem sameControl_advance_setOperand (s : State) (o : Operand8) (v : Byte) : SameControl s ((s.advance 1).setOperand o v) :=
  (sameControl_advance s 1).trans (sameControl_setOperand _ o v)

theorem sameControl_aluApply (op : AluOp) (v : Byte) (s : State) : SameControl s (aluApply op v s) := by
  obtain ⟨-, -, hcontrol, -⟩ := aluApply_frame op v s s.pc
  exact hcontrol

theorem sameControl_push16_jump (s : State) (v target : Word) : SameControl s ((s.push16 v).jump target) :=
  (sameControl_push16 s v).trans (sameControl_jump _ target)

theorem sameControl_cbRow (c : Byte) (s : State) : SameControl s (cbRow c s) := by
  unfold cbRow
  split
  · exact (sameControl_advance s 1).trans (sameControl_setOperand_setFlags _ _ _ _ _ _ _)
  · exact (sameControl_advance s 1).trans (sameControl_setFlags _ _ _ _ _)
  · exact sameControl_advance_setOperand s _ _
  · exact sameControl_advance_setOperand s _ _

theorem completes_control (i : Instr) (s : State) : Completes i s fun t => SameControl s t ∨ WritesControl i := by
  cases i using Instr.byForm with
  | ldRegReg dst src => exact ⟨_, exec_ldRegReg dst src s, .inl (sameControl_setReg s dst _)⟩
  | ldRegImm dst n => exact ⟨_, exec_ldRegImm dst n s, .inl ((sameControl_advance s 1).trans (sameControl_setReg _ dst n))⟩
  | ldRegAtHl dst => exact ⟨_, exec_ldRegAtHl dst s, .inl (sameControl_setReg s dst _)⟩
  | ldAtHlReg r => exact ⟨_, exec_ldAtHlReg r s, .inl (sameControl_writeByte s s.hl _)⟩
  | ldPairImm p nn => exact ⟨_, exec_ldPairImm p nn s, .inl ((sameControl_advance s 2).trans (sameControl_setPair _ p nn))⟩
  | incPair p => exact ⟨_, exec_incPair p s, .inl (sameControl_setPair s p _)⟩
  | decPair p => exact ⟨_, exec_decPair p s, .inl (sameControl_setPair s p _)⟩
  | addHlPair p => exact ⟨_, exec_addHlPair p s, .inl ((sameControl_setHl s _).trans (sameControl_setFlags _ _ _ _ _))⟩
  | push p => exact ⟨_, exec_push p s, .inl (sameControl_push16 s _)⟩
  | pop p => exact ⟨_, exec_pop p s, .inl ((sameControl_setSp s _).trans (sameControl_setStackPair _ p _))⟩
  | alu op o => exact ⟨_, exec_alu op o s, .inl (sameControl_aluApply op _ s)⟩
  | aluImm op n => exact ⟨_, exec_aluImm op n s, .inl ((sameControl_advance s 1).trans (sameControl_aluApply op n _))⟩
  | incOp o => exact ⟨_, exec_incOp o s, .inl (sameControl_setOperand_setFlags s o _ _ _ _ _)⟩
  | decOp o => exact ⟨_, exec_decOp o s, .inl (sameControl_setOperand_setFlags s o _ _ _ _ _)⟩
  | jrCond cc e =>
    rw [Completes, exec_jrCond, jumpRelIf_eq_jump]
    exact ⟨_, rfl, .inl (sameControl_jump s _)⟩
  | jpCond cc nn =>
    rw [Completes, exec_jpCond, jumpAbsIf_eq_jump]
    exact ⟨_, rfl, .inl (sameControl_jump s _)⟩
  | callCond cc nn =>
    exact ⟨_, exec_callCond cc nn s,
      .inl (.ite ((sameControl_advance s 2).trans (sameControl_push16_jump _ _ nn)) (sameControl_advance s 2))⟩
  | retCond cc =>
    exact ⟨_, exec_retCond cc s, .inl (.ite ((sameControl_setSp s _).trans (sameControl_jump _ _)) (.refl s))⟩
  | rst t => exact ⟨_, exec_rst t s, .inl (sameControl_push16_jump s _ _)⟩
  | rot op o =>
    exact ⟨_, exec_rot op o s, .inl ((sameControl_advance s 1).trans (sameControl_setOperand_setFlags _ o _ _ _ _ _))⟩
  | bit b o => exact ⟨_, exec_bit b o s, .inl ((sameControl_advance s 1).trans (sameControl_setFlags _ _ _ _ _))⟩
  | res b o => exact ⟨_, exec_res b o s, .inl (sameControl_advance_setOperand s o _)⟩
  | set b o => exact ⟨_, exec_set b o s, .inl (sameControl_advance_setOperand s o _)⟩
  | callA16 nn => exact ⟨_, exec_callA16 nn s, .inl ((sameControl_advance s 2).trans (sameControl_push16_jump _ _ nn))⟩
  | prefixCb => exact ⟨_, exec_prefixCb s, .inl (sameControl_cbRow _ s)⟩
  | halt | stop x | di | ei | reti => exact ⟨_, rfl, .inr (by simp [WritesControl])⟩
  | hole i hi => exact ⟨_, exec_hole hi s, .inr (by simp [WritesControl, hi])⟩
  | _ => exact ⟨_, rfl, .inl ⟨rfl, rfl, rfl, rfl, rfl, rfl, rfl, rfl, rfl, rfl⟩⟩

/-! ## F -/

theorem cbRow_f (c : Byte) (s : State) : (cbRow c s).f = s.f ∨ (cbRow c s).f &&& 0x0F = 0 := by
  unfold cbRow
  split
  · exact .inr (flagByte_low _ _ _ _)
  · exact .inr (flagByte_low _ _ _ _)
  · exact .inl (State.setOperand_f _ _ _)
  · exact .inl (State.setOperand_f _ _ _)

/-- A row that sets the four flags last. -/
theorem completes_f_of_setFlags {i : Instr} {s t : State} {z n h c : Bool} (hexec : exec i s = .next (t.setFlags z n h c))
    (hi : WritesF i) : Completes i s fun t => t.f = s.f ∨ WritesF i ∧ t.f &&& 0x0F = 0 :=
  ⟨_, hexec, .inr ⟨hi, flagByte_low z n h c⟩⟩

/-- F is written by the listed forms alone, and its low nibble is then zero. The byte 0xCB is listed for the rows it runs, some of which
leave F as it was. -/
theorem completes_f (i : Instr) (s : State) : Completes i s fun t => t.f = s.f ∨ WritesF i ∧ t.f &&& 0x0F = 0 := by
  cases i using Instr.byForm with
  | ldRegReg dst src => exact ⟨_, exec_ldRegReg dst src s, .inl (State.setReg_f _ dst _)⟩
  | ldRegImm dst n => exact ⟨_, exec_ldRegImm dst n s, .inl (State.setReg_f _ dst n)⟩
  | ldRegAtHl dst => exact ⟨_, exec_ldRegAtHl dst s, .inl (State.setReg_f _ dst _)⟩
  | ldAtHlReg r => exact ⟨_, exec_ldAtHlReg r s, .inl rfl⟩
  | ldPairImm p nn => exact ⟨_, exec_ldPairImm p nn s, .inl (State.setPair_f _ p nn)⟩
  | incPair p => exact ⟨_, exec_incPair p s, .inl (State.setPair_f _ p _)⟩
  | decPair p => exact ⟨_, exec_decPair p s, .inl (State.setPair_f _ p _)⟩
  | addHlPair p => exact completes_f_of_setFlags (exec_addHlPair p s) (by simp [WritesF])
  | push p => exact ⟨_, exec_push p s, .inl rfl⟩
  | pop p =>
    by_cases hp : p = .af
    case pos =>
      subst hp
      exact ⟨_, exec_pop .af s, .inr ⟨by simp [WritesF], maskedFlag_low _⟩⟩
    case neg => exact ⟨_, exec_pop p s, .inl (State.setStackPair_f hp _ _)⟩
  | alu op o => exact completes_f_of_setFlags (exec_alu op o s) (by simp [WritesF])
  | aluImm op n => exact completes_f_of_setFlags (exec_aluImm op n s) (by simp [WritesF])
  | incOp o => exact completes_f_of_setFlags (exec_incOp o s) (by simp [WritesF])
  | decOp o => exact completes_f_of_setFlags (exec_decOp o s) (by simp [WritesF])
  | jrCond cc e => exact ⟨_, exec_jrCond cc e s, .inl (field_ite_eq State.f rfl rfl)⟩
  | jpCond cc nn => exact ⟨_, exec_jpCond cc nn s, .inl (field_ite_eq State.f rfl rfl)⟩
  | callCond cc nn => exact ⟨_, exec_callCond cc nn s, .inl (field_ite_eq State.f rfl rfl)⟩
  | retCond cc => exact ⟨_, exec_retCond cc s, .inl (field_ite_eq State.f rfl rfl)⟩
  | rst t => exact ⟨_, exec_rst t s, .inl rfl⟩
  | rot op o => exact completes_f_of_setFlags (exec_rot op o s) (by simp [WritesF])
  | bit b o => exact completes_f_of_setFlags (exec_bit b o s) (by simp [WritesF])
  | res b o => exact ⟨_, exec_res b o s, .inl (State.setOperand_f _ o _)⟩
  | set b o => exact ⟨_, exec_set b o s, .inl (State.setOperand_f _ o _)⟩
  | rlca | rrca | rla | rra | daa | cpl | scf | ccf | addSpE8 e | ldHlSpE8 e =>
    exact completes_f_of_setFlags rfl (by simp [WritesF])
  | halt => exact ⟨_, exec_halt s, .inl (field_ite_eq State.f rfl rfl)⟩
  | prefixCb => exact ⟨_, exec_prefixCb s, (cbRow_f _ s).imp_right fun hlow => ⟨by simp [WritesF], hlow⟩⟩
  | callA16 nn => exact ⟨_, exec_callA16 nn s, .inl rfl⟩
  | hole i hi => exact ⟨_, exec_hole hi s, .inl rfl⟩
  | _ => exact ⟨_, rfl, .inl rfl⟩

/-! ## Memory -/

theorem aluApply_mem (op : AluOp) (v : Byte) (s : State) : (aluApply op v s).mem = s.mem := by
  cases op <;> rfl

/-- The write of an operand reaches memory only at HL, so `Q` need hold only of (HL). -/
theorem setOperand_mem_cases (s : State) (o : Operand8) (v : Byte) {Q : Prop} (hQ : o = .atHl → Q) :
    (s.setOperand o v).mem = s.mem ∨ Q ∧ (Memory.wf s.mem → Memory.wf (s.setOperand o v).mem) := by
  cases o with
  | reg r => exact .inl (s.setReg_mem r v)
  | atHl => exact .inr ⟨hQ rfl, fun h => State.setOperand_wf h .atHl v⟩

theorem cbRow_wf {s : State} (h : Memory.wf s.mem) (c : Byte) : Memory.wf (cbRow c s).mem := by
  unfold cbRow
  split
  · exact State.setOperand_wf (s := s.advance 1) h _ _
  · exact h
  · exact State.setOperand_wf (s := s.advance 1) h _ _
  · exact State.setOperand_wf (s := s.advance 1) h _ _

theorem callAbsIf_wf {s : State} (h : Memory.wf s.mem) (cc : Cond) (nn : Word) : Memory.wf (callAbsIf cc nn s).mem := by
  unfold callAbsIf
  split
  · exact State.push16_wf (s := s.advance 2) h _
  · exact h

/-- The CB rows that write the byte at HL are storing forms. -/
theorem writesMemory_cb_atHl :
    (∀ op, WritesMemory (Instr.rot op .atHl)) ∧ (∀ b, WritesMemory (Instr.res b .atHl)) ∧ ∀ b, WritesMemory (Instr.set b .atHl) := by
  refine ⟨fun op => ?_, fun b => ?_, fun b => ?_⟩
  · have h : ∃ x, Instr.rot op .atHl = Instr.rot x .atHl := ⟨op, rfl⟩
    simp [WritesMemory, h]
  · have h : ∃ x, Instr.res b .atHl = Instr.res x .atHl := ⟨b, rfl⟩
    simp [WritesMemory, h]
  · have h : ∃ x, Instr.set b .atHl = Instr.set x .atHl := ⟨b, rfl⟩
    simp [WritesMemory, h]

/-- Memory is written by the storing forms alone, which keep its canonical form. -/
theorem completes_mem (i : Instr) (s : State) :
    Completes i s fun t => t.mem = s.mem ∨ WritesMemory i ∧ (Memory.wf s.mem → Memory.wf t.mem) := by
  obtain ⟨hrot, hres, hset⟩ := writesMemory_cb_atHl
  cases i using Instr.byForm with
  | ldRegReg dst src => exact ⟨_, exec_ldRegReg dst src s, .inl (State.setReg_mem _ dst _)⟩
  | ldRegImm dst n => exact ⟨_, exec_ldRegImm dst n s, .inl (State.setReg_mem _ dst n)⟩
  | ldRegAtHl dst => exact ⟨_, exec_ldRegAtHl dst s, .inl (State.setReg_mem _ dst _)⟩
  | ldAtHlReg r => exact ⟨_, exec_ldAtHlReg r s, .inr ⟨by simp [WritesMemory], fun h => State.writeByte_wf h _ _⟩⟩
  | ldPairImm p nn => exact ⟨_, exec_ldPairImm p nn s, .inl (State.setPair_mem _ p nn)⟩
  | incPair p => exact ⟨_, exec_incPair p s, .inl (State.setPair_mem _ p _)⟩
  | decPair p => exact ⟨_, exec_decPair p s, .inl (State.setPair_mem _ p _)⟩
  | addHlPair p => exact ⟨_, exec_addHlPair p s, .inl rfl⟩
  | push p => exact ⟨_, exec_push p s, .inr ⟨by simp [WritesMemory], fun h => State.push16_wf h _⟩⟩
  | pop p => exact ⟨_, exec_pop p s, .inl (State.setStackPair_mem _ p _)⟩
  | alu op o => exact ⟨_, exec_alu op o s, .inl (aluApply_mem op _ s)⟩
  | aluImm op n => exact ⟨_, exec_aluImm op n s, .inl (aluApply_mem op n _)⟩
  | incOp o => exact ⟨_, exec_incOp o s, setOperand_mem_cases s o _ (by rintro rfl; simp [WritesMemory])⟩
  | decOp o => exact ⟨_, exec_decOp o s, setOperand_mem_cases s o _ (by rintro rfl; simp [WritesMemory])⟩
  | jrCond cc e => exact ⟨_, exec_jrCond cc e s, .inl (field_ite_eq State.mem rfl rfl)⟩
  | jpCond cc nn => exact ⟨_, exec_jpCond cc nn s, .inl (field_ite_eq State.mem rfl rfl)⟩
  | callCond cc nn => exact ⟨_, exec_callCond cc nn s, .inr ⟨by simp [WritesMemory], fun h => callAbsIf_wf h cc nn⟩⟩
  | retCond cc => exact ⟨_, exec_retCond cc s, .inl (field_ite_eq State.mem rfl rfl)⟩
  | rst t => exact ⟨_, exec_rst t s, .inr ⟨by simp [WritesMemory], fun h => State.push16_wf h _⟩⟩
  | rot op o => exact ⟨_, exec_rot op o s, setOperand_mem_cases (s.advance 1) o _ fun ho => ho ▸ hrot op⟩
  | bit b o => exact ⟨_, exec_bit b o s, .inl rfl⟩
  | res b o => exact ⟨_, exec_res b o s, setOperand_mem_cases (s.advance 1) o _ fun ho => ho ▸ hres b⟩
  | set b o => exact ⟨_, exec_set b o s, setOperand_mem_cases (s.advance 1) o _ fun ho => ho ▸ hset b⟩
  | ldAtBcA | ldAtDeA | ldAtHlIncA | ldAtHlDecA | ldhAtCA | ldAtHlD8 n | ldhAtA8A n | ldAtA16A nn =>
    exact ⟨_, rfl, .inr ⟨by simp [WritesMemory], fun h => memWrite_wf h (BitVec.isLt _) _⟩⟩
  | ldAtA16Sp nn =>
    exact ⟨_, exec_ldAtA16Sp nn s, .inr ⟨by simp [WritesMemory], fun h => State.writeWord_wf (s := s.advance 2) h nn _⟩⟩
  | callA16 nn =>
    exact ⟨_, exec_callA16 nn s, .inr ⟨by simp [WritesMemory], fun h => State.push16_wf (s := s.advance 2) h _⟩⟩
  | prefixCb => exact ⟨_, exec_prefixCb s, .inr ⟨by simp [WritesMemory], fun h => cbRow_wf h _⟩⟩
  | halt => exact ⟨_, exec_halt s, .inl (field_ite_eq State.mem rfl rfl)⟩
  | hole i hi => exact ⟨_, exec_hole hi s, .inl rfl⟩
  | _ => exact ⟨_, rfl, .inl rfl⟩

/-! ## pc -/

/-- A row of `k + 1` bytes whose handler moves pc past the `k` bytes after the opcode. -/
theorem completes_pc_of_advanced {i : Instr} {s t : State} {k : Nat} (hlength : i.length = k + 1) (hexec : exec i s = .next t)
    (hpc : t.pc = s.pc + BitVec.ofNat 16 k) : Completes i s fun t => t.pc = s.pc + BitVec.ofNat 16 (i.length - 1) :=
  ⟨t, hexec, by simp [hlength, hpc]⟩

/-- A row of one byte whose handler leaves pc where it is. -/
theorem completes_pc_of_kept {i : Instr} {s t : State} (hlength : i.length = 1) (hexec : exec i s = .next t) (hpc : t.pc = s.pc) :
    Completes i s fun t => t.pc = s.pc + BitVec.ofNat 16 (i.length - 1) :=
  completes_pc_of_advanced hlength hexec (hpc.trans (BitVec.add_zero s.pc).symm)

/-- Each handler that transfers no control moves pc past the immediates of its row (R144). -/
theorem completes_pc {i : Instr} (hcomplete : i.isComplete = true) (hhole : i.isHole = false)
    (htransfer : transfersControl i = false) (s : State) :
    Completes i s fun t => t.pc = s.pc + BitVec.ofNat 16 (i.length - 1) := by
  cases i using Instr.byForm with
  | ldRegReg dst src => exact completes_pc_of_kept (length_ldRegReg dst src) (exec_ldRegReg dst src s) (State.setReg_pc _ dst _)
  | ldRegImm dst n => exact completes_pc_of_advanced (length_ldRegImm dst n) (exec_ldRegImm dst n s) (State.setReg_pc _ dst n)
  | ldRegAtHl dst => exact completes_pc_of_kept (length_ldRegAtHl dst) (exec_ldRegAtHl dst s) (State.setReg_pc _ dst _)
  | ldAtHlReg r => exact completes_pc_of_kept (length_ldAtHlReg r) (exec_ldAtHlReg r s) rfl
  | ldPairImm p nn => exact completes_pc_of_advanced (length_ldPairImm p nn) (exec_ldPairImm p nn s) (State.setPair_pc _ p nn)
  | incPair p => exact completes_pc_of_kept (length_incPair p) (exec_incPair p s) (State.setPair_pc _ p _)
  | decPair p => exact completes_pc_of_kept (length_decPair p) (exec_decPair p s) (State.setPair_pc _ p _)
  | addHlPair p => exact completes_pc_of_kept (length_addHlPair p) (exec_addHlPair p s) rfl
  | push p => exact completes_pc_of_kept (length_push p) (exec_push p s) rfl
  | pop p => exact completes_pc_of_kept (length_pop p) (exec_pop p s) (State.setStackPair_pc _ p _)
  | alu op o => exact completes_pc_of_kept (length_alu op o) (exec_alu op o s) (aluApply_pc op _ s)
  | aluImm op n => exact completes_pc_of_advanced (length_aluImm op n) (exec_aluImm op n s) (aluApply_pc op n _)
  | incOp o => exact completes_pc_of_kept (length_incOp o) (exec_incOp o s) (State.setOperand_pc s o _)
  | decOp o => exact completes_pc_of_kept (length_decOp o) (exec_decOp o s) (State.setOperand_pc s o _)
  | rot op o => exact completes_pc_of_advanced (length_rot op o) (exec_rot op o s) (State.setOperand_pc _ o _)
  | bit b o => exact completes_pc_of_advanced (length_bit b o) (exec_bit b o s) rfl
  | res b o => exact completes_pc_of_advanced (length_res b o) (exec_res b o s) (State.setOperand_pc _ o _)
  | set b o => exact completes_pc_of_advanced (length_set b o) (exec_set b o s) (State.setOperand_pc _ o _)
  | jrCond cc _ | jpCond cc _ | callCond cc _ | retCond cc => cases cc <;> cases htransfer
  | rst t => cases t <;> cases htransfer
  | jrE8 | jpA16 | jpHl | ret | callA16 | reti => cases htransfer
  | prefixCb => cases hcomplete
  | hole i hi => cases hi.symm.trans hhole
  | halt => exact completes_pc_of_kept rfl (exec_halt s) (field_ite_eq State.pc rfl rfl)
  | ldAtHlD8 n | ldhAtA8A n | ldhAAtA8 n | addSpE8 e | ldHlSpE8 e | stop x =>
    exact completes_pc_of_advanced (k := 1) rfl rfl rfl
  | ldAtA16Sp nn | ldAtA16A nn | ldAAtA16 nn => exact completes_pc_of_advanced (k := 2) rfl rfl rfl
  | _ => exact completes_pc_of_kept rfl rfl rfl

/-! ## The statements -/

/-- Settles O11: of the rows that write a control field, HALT, STOP and the holes leave both latches alone, and EI leaves IME. -/
theorem onlyDiEiRetiWriteIme : Obligations.OnlyDiEiRetiWriteIme := by
  intro i s t hexec
  rcases (completes_control i s).of_exec hexec with hcontrol | rfl | ⟨x, rfl⟩ | rfl | rfl | rfl | hhole
  case inl => exact ⟨fun h => absurd hcontrol.ime h, fun h => absurd hcontrol.imePending h⟩
  case inr.inl =>
    cases (exec_halt s).symm.trans hexec
    exact ⟨fun h => absurd (haltCore_ime s) h, fun h => absurd (haltCore_imePending s) h⟩
  case inr.inr.inl =>
    cases (exec_stop x s).symm.trans hexec
    exact ⟨fun h => absurd rfl h, fun h => absurd rfl h⟩
  case inr.inr.inr.inl => exact ⟨fun _ => .inl rfl, fun _ => .inl rfl⟩
  case inr.inr.inr.inr.inl =>
    cases (exec_ei s).symm.trans hexec
    exact ⟨fun h => absurd rfl h, fun _ => .inr (.inl rfl)⟩
  case inr.inr.inr.inr.inr.inl => exact ⟨fun _ => .inr rfl, fun _ => .inr (.inr rfl)⟩
  case inr.inr.inr.inr.inr.inr =>
    cases (exec_hole hhole s).symm.trans hexec
    exact ⟨fun h => absurd rfl h, fun h => absurd rfl h⟩

/-- Settles O13: the handler completes with F as it was unless the row is listed (`completes_f`). -/
theorem onlyListedFormsWriteF : Obligations.OnlyListedFormsWriteF := by
  intro i s t hexec hf
  obtain hkept | ⟨hi, -⟩ := (completes_f i s).of_exec hexec
  · exact absurd hkept hf
  · exact hi

/-- Settles O14: the handler completes with memory as it was unless the row is a storing form (`completes_mem`). -/
theorem onlyListedFormsWriteMemory : Obligations.OnlyListedFormsWriteMemory := by
  intro i s t addr hexec hbyte
  obtain hkept | ⟨hi, -⟩ := (completes_mem i s).of_exec hexec
  · exact absurd (sameMemory_of_mem hkept addr) hbyte
  · exact hi

/-- Settles O23, row by row (`completes_pc`). -/
theorem pcAdvancesByLength : Obligations.PcAdvancesByLength :=
  fun _ s _ hcomplete hhole htransfer hexec => (completes_pc hcomplete hhole htransfer s).of_exec hexec

end Sys2Proof.Machine
end

section
/-! The boundary of a step (60_exceptions.md R709 to R717): the stop input, the wake of a Halted core, the interrupt entry, and the step
that goes on to fetch. -/

namespace Sys2Proof.Machine

/-! ## What a boundary does, by its draw -/

theorem boundaryEvent_of_stop {s : State} (hrun : s.runState ≠ .stopped) (hstop : s.nextDraw.stop = true) :
    boundaryEvent s = .ended (s.sample.setRunState .stopped) := by
  cases hr : s.runState with
  | stopped => exact absurd hr hrun
  | _ => simp [boundaryEvent, boundaryOf, hr, hstop]

theorem boundaryEvent_of_interrupt {s : State} {k : Fin 5} (hrun : s.runState = .running) (hime : s.ime = true)
    (hdraw : s.nextDraw = ⟨some k, false⟩) : boundaryEvent s = .ended (s.sample.interruptEntry k) := by
  simp [boundaryEvent, boundaryOf, takeInterrupt, hrun, hime, hdraw]

theorem boundaryEvent_of_willFetch {s : State} (h : s.WillFetch) : boundaryEvent s = .fetch s.sample := by
  obtain ⟨hrun, hstop, hime | hirq⟩ := h
  · cases hirq : s.nextDraw.irq <;> simp [boundaryEvent, boundaryOf, takeInterrupt, hrun, hstop, hime, hirq]
  · simp [boundaryEvent, boundaryOf, takeInterrupt, hrun, hstop, hirq]

/-- A wake leaves a Halted core where the boundary of a Running one goes on. -/
theorem boundaryEvent_of_wake {s : State} (hrun : s.runState = .halted) (hstop : s.nextDraw.stop = false)
    (hirq : s.nextDraw.irq ≠ none) : boundaryEvent s = boundaryEvent { s with runState := .running } := by
  have hstop' : State.nextDraw { s with runState := .running } = s.nextDraw := rfl
  simp only [boundaryEvent, boundaryOf, State.sample_runState, State.sample_irqNow, hrun, hstop', hstop, hirq, if_false,
    Bool.false_eq_true]
  rfl

/-- A step that fetches dispatches the decoded bytes at pc in the sampled state. -/
theorem step_of_willFetch {s : State} (h : s.WillFetch) : step s = dispatchDecoded s.sample s.decodeFetched :=
  step_of_fetch (boundaryEvent_of_willFetch h)

/-! ## The statements -/

/-- Settles O15: the boundary ends the step with the sampled state stopped. -/
theorem stopInputStopsCore : Obligations.StopInputStopsCore :=
  fun _ hrun hstop => step_of_ended (boundaryEvent_of_stop hrun hstop)

/-- Settles O17: the step depends on the state through its boundary alone. -/
theorem haltedCoreWakes : Obligations.HaltedCoreWakes := by
  intro s hrun hstop hirq
  rw [step, cycle, boundaryEvent_of_wake hrun hstop hirq]
  rfl

theorem interruptVector_eq_ofNat (k : Fin 5) : interruptVector k = BitVec.ofNat 16 (0x0040 + 8 * k.val) := by
  fin_cases k <;> rfl

/-- Settles O18: the entry is a push of pc in the sampled state. -/
theorem interruptEntryEffect : Obligations.InterruptEntryEffect := by
  intro s k hrun hime hdraw
  exact ⟨_, step_of_ended (boundaryEvent_of_interrupt hrun hime hdraw), rfl, rfl, rfl, s.readByte_push16_high s.pc,
    s.readByte_push16_low s.pc, sameMemoryBut_push16 s s.pc, interruptVector_eq_ofNat k, rfl,
    fun r _ => State.interruptEntry_reg s.sample k r, rfl, rfl, hrun, rfl, rfl⟩

/-- Settles O5: the dispatched row in the state that `dispatchState` makes, field by field. -/
theorem stepRunsDecodedInstruction : Obligations.StepRunsDecodedInstruction := by
  rintro s i imm hfetch rfl - hdecode
  rw [step_of_willFetch hfetch, show s.decodeFetched = .instr i from hdecode]
  exact apply_ite (exec i) (i.isHole = true) s.sample s.sample.enterHandler

/-- Settles O20: DOC's answer for the byte is Unimplemented, because the class of its row does not depend on the bytes after it. -/
theorem unimplementedStopsDocCore : Obligations.UnimplementedStopsDocCore := by
  rintro s _ hfetch hprofile rfl hdoc hhole
  have hdecode : s.decodeFetched = .unimplemented (s.readByte s.pc) := by
    obtain ⟨hclass, hclass'⟩ := decodeBase_class s.params.wordOrder (s.readByte s.pc) (s.readByte s.operandPc)
      (s.readByte (s.operandPc + 1))
    rw [State.decodeFetched, State.decodeAt, hprofile, decode_doc, hclass, hclass', hdoc, hhole]
    rfl
  rw [step_of_willFetch hfetch, hdecode]
  rfl

/-- Settles O29: EI's handler runs with IME and ime_pending clear, so the state it leaves has ime_pending alone set. -/
theorem eiTakesEffectOneInstructionLater : Obligations.EiTakesEffectOneInstructionLater := by
  intro s hfetch hime hpending hdecode
  have hlatch : (s.ime || s.imePending) = false := by rw [hime, hpending]; rfl
  refine ⟨{ s.sample.enterHandler with imePending := true }, ?step, hlatch, rfl, fun hstop => ⟨hfetch.1, hstop, .inl hlatch⟩, ?handler⟩
  case step =>
    rw [step_of_willFetch hfetch, hdecode]
    rfl
  case handler =>
    intro j hj
    rw [State.dispatchState_handler hj]
    exact Bool.or_true _

end Sys2Proof.Machine
end

section
/-! run_state after a step (60_exceptions.md R708). -/

namespace Sys2Proof.Machine

/-- Only HALT, STOP and the holes write run_state. -/
theorem exec_runState {i : Instr} {s t : State} (hexec : exec i s = .next t) (hhalt : i ≠ .halt) (hhole : i.isHole = false)
    (hstop : ∀ x, i ≠ .stop x) : t.runState = s.runState := by
  rcases (completes_control i s).of_exec hexec with hcontrol | rfl | ⟨x, rfl⟩ | rfl | rfl | rfl | h
  case inl => exact hcontrol.runState
  case inr.inl => exact absurd rfl hhalt
  case inr.inr.inl => exact absurd rfl (hstop x)
  case inr.inr.inr.inl => cases hexec; rfl
  case inr.inr.inr.inr.inl => cases hexec; rfl
  case inr.inr.inr.inr.inr.inl => cases hexec; rfl
  case inr.inr.inr.inr.inr.inr => cases h.symm.trans hhole

theorem haltCore_runState (s : State) :
    (haltCore s).runState =
      if s.params.profile = .full ∧ s.ime = false ∧ s.irqNow ≠ none then s.runState else .halted :=
  apply_ite State.runState _ _ _

/-- run_state after a running core has dispatched what it fetched. -/
theorem runState_of_dispatch {s t : State} {i : Instr} (hrun : s.runState = .running)
    (hexec : exec i (s.dispatchState i) = .next t) :
    (i = .halt → t.runState =
      if s.params.profile = .full ∧ (s.ime || s.imePending) = false ∧ s.irqNow ≠ none then .running else .halted) ∧
    ((i.isHole = true ∨ ∃ x, i = .stop x) → t.runState = .stopped) ∧
    (i ≠ .halt → i.isHole = false → (∀ x, i ≠ .stop x) → t.runState = .running) := by
  refine ⟨?halt, ?stopped, ?running⟩
  case halt =>
    rintro rfl
    cases hexec
    exact (haltCore_runState s.enterHandler).trans (by rw [State.enterHandler_runState, hrun]; rfl)
  case stopped =>
    rintro (hhole | ⟨x, rfl⟩)
    · cases (exec_hole hhole _).symm.trans hexec
      rfl
    · cases hexec
      rfl
  case running =>
    intro hhalt hhole hstop
    rw [exec_runState hexec hhalt hhole hstop, State.dispatchState_handler hhole]
    exact hrun

/-- Settles O12, by the cases of a step; a dispatch is `runState_of_dispatch` for the decoded row. -/
theorem runStateTransitions : Obligations.RunStateTransitions := by
  intro s t hstep
  rcases step_cases s with ⟨hr, e⟩ | ⟨hr, hstop, e⟩ | ⟨hr, hstop, hirq, e⟩ | ⟨k, hr, hstop, hirq, hime, e⟩ |
    ⟨hr, hstop, hwake, hime, e⟩ <;> rw [e] at hstep
  case inl =>
    cases hstep
    simp [hr]
  case inr.inl =>
    cases hstep
    simp [hr, hstop]
  case inr.inr.inl =>
    cases hstep
    simp [hr, hstop, hirq]
  case inr.inr.inr.inl =>
    cases hstep
    simp [hr, hstop, hirq, hime]
  case inr.inr.inr.inr =>
    have hidle : ¬(s.runState = .halted ∧ s.nextDraw.irq = none) := fun h => hwake h.1 h.2
    have hentry : ¬(s.ime = true ∧ s.nextDraw.irq ≠ none) := by
      rintro ⟨hon, hrequest⟩
      simp [hon, hrequest] at hime
    rw [if_neg hr, if_neg (by simp [hstop]), if_neg hidle, if_neg hentry]
    split
    case h_1 byte hdecode =>
      rw [hdecode] at hstep
      cases hstep
      rfl
    case h_2 i hdecode =>
      rw [hdecode] at hstep
      exact runState_of_dispatch (s := s.sample.setRunState .running) rfl hstep

end Sys2Proof.Machine
end

section
/-! The invariant `State.Inv` (10_state.md R32, R42, R47; 60_exceptions.md R702 to R704, R714): it holds after reset, and each part of a
step keeps it. -/

namespace Sys2Proof.Machine

/-- Settles O2: reset lists no byte, records no error and clears every latch. -/
theorem resetMeetsInvariant : Obligations.ResetMeetsInvariant := fun _ =>
  { memory := ⟨.nil, fun _ h => nomatch h⟩
    flagLow := BitVec.zero_and
    haltBug := fun h => nomatch h
    doc := fun _ => ⟨rfl, rfl, rfl⟩
    errorStopped := fun h => absurd rfl h
    errorKind := fun _ h => nomatch h }

/-! ## The boundary and the entry to the handler -/

theorem State.Inv.sample {s : State} (h : s.Inv) : s.sample.Inv :=
  ⟨h.memory, h.flagLow, h.haltBug, h.doc, h.errorStopped, h.errorKind⟩

theorem State.Inv.setStopped {s : State} (h : s.Inv) : (s.setRunState .stopped).Inv :=
  ⟨h.memory, h.flagLow, h.haltBug, h.doc, fun _ => rfl, h.errorKind⟩

/-- A core that is not Stopped has no error recorded. -/
theorem State.Inv.lastError_eq_none {s : State} (h : s.Inv) (hrun : s.runState ≠ .stopped) : s.lastError = none := by
  by_contra herror
  exact hrun (h.errorStopped herror)

theorem State.Inv.setRunState {s : State} (h : s.Inv) (hnone : s.lastError = none) (r : RunState) : (s.setRunState r).Inv :=
  ⟨h.memory, h.flagLow, h.haltBug, h.doc, fun herror => absurd hnone herror, h.errorKind⟩

theorem State.Inv.interruptEntry {s : State} (h : s.Inv) (k : Fin 5) : (s.interruptEntry k).Inv where
  memory := State.interruptEntry_wf h.memory k
  flagLow := h.flagLow
  haltBug := fun _ => ⟨rfl, rfl⟩
  doc := fun hdoc => ⟨rfl, rfl, (h.doc hdoc).2.2⟩
  errorStopped := h.errorStopped
  errorKind := h.errorKind

theorem State.Inv.raiseError {s : State} (h : s.Inv) {kind : ErrorKind} (byte : Byte) (hkind : kind ≠ .addressingFault)
    (hdoc : kind = .unimplemented → s.params.profile = .doc) : (s.raiseError kind byte).Inv where
  memory := h.memory
  flagLow := h.flagLow
  haltBug := h.haltBug
  doc := h.doc
  errorStopped := fun _ => rfl
  errorKind := by
    rintro r ⟨⟩
    exact ⟨hkind, hdoc⟩

/-- Under DOC no EI is pending, so none takes effect. -/
theorem State.Inv.enterHandler {s : State} (h : s.Inv) : s.enterHandler.Inv where
  memory := h.memory
  flagLow := h.flagLow
  haltBug := fun hbug => nomatch hbug
  doc := fun hdoc => by
    obtain ⟨hime, hpending, -⟩ := h.doc hdoc
    exact ⟨by rw [State.enterHandler_ime, hime, hpending]; rfl, rfl, rfl⟩
  errorStopped := h.errorStopped
  errorKind := h.errorKind

/-! ## Instructions -/

/-- The invariant at the entry of a handler, where neither latch is set and no error is recorded. -/
structure EntryInv (s : State) : Prop where
  inv        : s.Inv
  haltBug    : s.haltBug = false
  imePending : s.imePending = false
  noError    : s.lastError = none

/-- A handler keeps the memory and the flag parts of the invariant. -/
theorem State.Inv.memory_flagLow_of_exec {i : Instr} {s t : State} (h : s.Inv) (hexec : exec i s = .next t) :
    Memory.wf t.mem ∧ t.f &&& 0x0F = 0 := by
  constructor
  · obtain hkept | ⟨-, hwf⟩ := (completes_mem i s).of_exec hexec
    · rw [hkept]
      exact h.memory
    · exact hwf h.memory
  · obtain hkept | ⟨-, hlow⟩ := (completes_f i s).of_exec hexec
    · rw [hkept]
      exact h.flagLow
    · exact hlow

theorem State.Inv.of_sameControl {s t : State} (h : s.Inv) (hcontrol : SameControl s t) (hmem : Memory.wf t.mem)
    (hlow : t.f &&& 0x0F = 0) : t.Inv where
  memory := hmem
  flagLow := hlow
  haltBug := by
    rw [hcontrol.haltBug, hcontrol.ime, hcontrol.imePending]
    exact h.haltBug
  doc := by
    rw [hcontrol.params, hcontrol.haltBug, hcontrol.ime, hcontrol.imePending]
    exact h.doc
  errorStopped := by
    rw [hcontrol.lastError, hcontrol.runState]
    exact h.errorStopped
  errorKind := by
    rw [hcontrol.lastError, hcontrol.params]
    exact h.errorKind

/-- HALT sets the halt bug under FULL only, and only with IME and ime_pending clear. -/
theorem EntryInv.haltCore {s : State} (h : EntryInv s) : (haltCore s).Inv := by
  obtain ⟨hinv, -, hpending, hnone⟩ := h
  by_cases hbug : s.params.profile = .full ∧ s.ime = false ∧ s.irqNow ≠ none
  · rw [haltCore_of_haltBug hbug]
    obtain ⟨hfull, hime, -⟩ := hbug
    exact ⟨hinv.memory, hinv.flagLow, fun _ => ⟨hime, hpending⟩, fun hdoc => (nomatch hfull.symm.trans hdoc), hinv.errorStopped,
      hinv.errorKind⟩
  · rw [haltCore_of_not_haltBug hbug]
    exact hinv.setRunState hnone .halted

/-- A row that is no hole keeps the invariant; EI and RETI, which set a latch, are not in DOC. -/
theorem EntryInv.exec {i : Instr} {s t : State} (h : EntryInv s) (hhole : i.isHole = false)
    (hdoc : s.params.profile = .doc → i.inDoc = true) (hexec : exec i s = .next t) : t.Inv := by
  have hinv := h.inv
  rcases (completes_control i s).of_exec hexec with hcontrol | rfl | ⟨x, rfl⟩ | rfl | rfl | rfl | hhole'
  case inl =>
    obtain ⟨hmem, hlow⟩ := hinv.memory_flagLow_of_exec hexec
    exact hinv.of_sameControl hcontrol hmem hlow
  case inr.inl =>
    cases hexec
    exact h.haltCore
  case inr.inr.inl =>
    cases hexec
    exact ⟨hinv.memory, hinv.flagLow, hinv.haltBug, hinv.doc, fun _ => rfl, hinv.errorKind⟩
  case inr.inr.inr.inl =>
    cases hexec
    exact ⟨hinv.memory, hinv.flagLow, fun _ => ⟨rfl, rfl⟩, fun _ => ⟨rfl, rfl, h.haltBug⟩, hinv.errorStopped, hinv.errorKind⟩
  case inr.inr.inr.inr.inl =>
    cases hexec
    exact ⟨hinv.memory, hinv.flagLow, fun hbug => (nomatch h.haltBug.symm.trans hbug), fun hd => (nomatch hdoc hd),
      hinv.errorStopped, hinv.errorKind⟩
  case inr.inr.inr.inr.inr.inl =>
    cases hexec
    exact ⟨hinv.memory, hinv.flagLow, fun hbug => (nomatch h.haltBug.symm.trans hbug), fun hd => (nomatch hdoc hd),
      hinv.errorStopped, hinv.errorKind⟩
  case inr.inr.inr.inr.inr.inr => cases hhole'.symm.trans hhole

/-! ## Steps -/

theorem EntryInv.of_enterHandler {s : State} (h : s.Inv) (hnone : s.lastError = none) : EntryInv s.enterHandler :=
  ⟨h.enterHandler, rfl, rfl, hnone⟩

/-- The dispatch of what a core without an error has fetched. -/
theorem State.Inv.dispatch {s t : State} (h : s.Inv) (hnone : s.lastError = none)
    (hdispatch : dispatchDecoded s s.decodeFetched = .next t) : t.Inv := by
  cases hdecode : s.decodeFetched with
  | unimplemented byte =>
    obtain ⟨hdoc, -⟩ := decode_eq_unimplemented hdecode
    rw [hdecode] at hdispatch
    cases hdispatch
    exact h.raiseError byte (by decide) fun _ => hdoc
  | instr i =>
    rw [hdecode] at hdispatch
    change exec i (s.dispatchState i) = .next t at hdispatch
    cases hhole : i.isHole with
    | true =>
      rw [State.dispatchState_hole hhole, exec_hole hhole] at hdispatch
      cases hdispatch
      exact h.raiseError _ (by decide) fun hkind => nomatch hkind
    | false =>
      rw [State.dispatchState_handler hhole] at hdispatch
      refine (EntryInv.of_enterHandler h hnone).exec hhole (fun hdoc => ?_) hdispatch
      rw [State.decodeFetched, State.decodeAt, show s.params.profile = .doc from hdoc] at hdecode
      exact (decode_doc_eq_instr hdecode).resolve_right (by simp [hhole])

/-- Settles O3: the boundary by its cases, and what a fetch dispatches in a core that is not Stopped, so without an error. -/
theorem stepKeepsInvariant : Obligations.StepKeepsInvariant := by
  intro s t h hstep
  rcases step_cases s with ⟨-, e⟩ | ⟨-, -, e⟩ | ⟨-, -, -, e⟩ | ⟨k, hr, -, -, -, e⟩ | ⟨hr, -, -, -, e⟩ <;> rw [e] at hstep
  case inl =>
    cases hstep
    exact h.sample
  case inr.inl =>
    cases hstep
    exact h.sample.setStopped
  case inr.inr.inl =>
    cases hstep
    exact h.sample
  case inr.inr.inr.inl =>
    cases hstep
    exact (h.sample.setRunState (h.lastError_eq_none hr) .running).interruptEntry k
  case inr.inr.inr.inr =>
    have hnone := h.lastError_eq_none hr
    exact (h.sample.setRunState hnone .running).dispatch hnone hstep

end Sys2Proof.Machine
end

section
/-! The error a step raises (60_exceptions.md R700 to R705): its record, and what is left where none is raised. -/

namespace Sys2Proof.Machine

theorem length_of_isHole {i : Instr} (h : i.isHole = true) : i.length = 1 := by
  rcases isHole_cases h with rfl | rfl | rfl | rfl | rfl | rfl | rfl | rfl | rfl | rfl | rfl <;> rfl

/-- A hole is decoded from its own byte alone. -/
theorem holeByte_of_decode {p : Profile} {o : WordOrder} {c b1 b2 : Byte} {i : Instr} (hdecode : decode p o c b1 b2 = .instr i)
    (hhole : i.isHole = true) : holeByte i = c := by
  obtain ⟨j, hfull, -, hbytes⟩ := encodeOfDecode o c b1 b2
  obtain rfl := Decoded.instr.inj (hfull.symm.trans (decode_full_of_decode hdecode))
  obtain ⟨-, ⟨-, hencode⟩, -⟩ := holeByte_row hhole
  rw [hencode, length_of_isHole hhole] at hbytes
  exact (List.cons.inj hbytes).1

/-- Only a hole writes last_error. -/
theorem exec_lastError {i : Instr} {s t : State} (hexec : exec i s = .next t) (hhole : i.isHole = false) :
    t.lastError = s.lastError := by
  rcases (completes_control i s).of_exec hexec with hcontrol | rfl | ⟨x, rfl⟩ | rfl | rfl | rfl | hhole'
  case inl => exact hcontrol.lastError
  case inr.inl =>
    cases hexec
    exact field_ite_eq State.lastError rfl rfl
  case inr.inr.inr.inr.inr.inr => cases hhole'.symm.trans hhole
  all_goals
    cases hexec
    rfl

/-- `t` is left after the error `e` was raised from `s`, or after none was (60_exceptions.md R704, R705). -/
def Reports (s t : State) (e : Option ErrorRecord) : Prop :=
  (e = none → t.lastError = s.lastError) ∧ ∀ r, e = some r → t.lastError = some r ∧ t.runState = .stopped

theorem reports_none {s t : State} (h : t.lastError = s.lastError) : Reports s t none := ⟨fun _ => h, fun _ h => nomatch h⟩

theorem reports_some {s t : State} {r : ErrorRecord} (herror : t.lastError = some r) (hrun : t.runState = .stopped) :
    Reports s t (some r) :=
  ⟨fun h => (nomatch h), by rintro _ ⟨⟩; exact ⟨herror, hrun⟩⟩

theorem dispatch_reports (s : State) :
    ∃ t, dispatchDecoded s s.decodeFetched = .next t ∧ Reports s t (raisedError (s.readByte s.pc) s.pc s.decodeFetched) := by
  cases hdecode : s.decodeFetched with
  | unimplemented byte => exact ⟨_, rfl, reports_some rfl rfl⟩
  | instr i =>
    rw [dispatchDecoded]
    cases hhole : i.isHole with
    | true =>
      rw [State.dispatchState_hole hhole, exec_hole hhole, raisedError_hole hhole, ← holeByte_of_decode hdecode hhole]
      exact ⟨_, rfl, reports_some rfl rfl⟩
    | false =>
      rw [State.dispatchState_handler hhole, raisedError_handler hhole]
      obtain ⟨t, hexec, -⟩ := completes_control i s.enterHandler
      exact ⟨t, hexec, reports_none (exec_lastError (s := s.enterHandler) hexec hhole)⟩

theorem step_reports (s : State) : ∃ t, step s = .next t ∧ Reports s t (stepError s) := by
  rcases boundaryEvent_cases s with ⟨-, e⟩ | ⟨-, -, e⟩ | ⟨-, -, -, e⟩ | ⟨k, -, -, -, -, e⟩ | ⟨-, -, -, -, e⟩
  case inr.inr.inr.inr =>
    rw [step_of_fetch e, stepError_of_fetch e]
    exact dispatch_reports (s.sample.setRunState .running)
  all_goals
    rw [step_of_ended e, stepError_of_ended e]
    exact ⟨_, rfl, reports_none rfl⟩

/-- Only a step that fetches raises an error, the one of what it fetched. -/
theorem stepError_eq (s : State) :
    stepError s =
      if s.runState = .stopped ∨ s.nextDraw.stop = true ∨ (s.runState = .halted ∧ s.nextDraw.irq = none) ∨
          (s.ime = true ∧ s.nextDraw.irq ≠ none) then none
      else raisedError (s.readByte s.pc) s.pc s.decodeFetched := by
  rcases boundaryEvent_cases s with ⟨hr, e⟩ | ⟨hr, hstop, e⟩ | ⟨hr, hstop, hirq, e⟩ | ⟨k, hr, hstop, hirq, hime, e⟩ |
    ⟨hr, hstop, hwake, hime, e⟩
  case inl => rw [stepError_of_ended e, if_pos (.inl hr)]
  case inr.inl => rw [stepError_of_ended e, if_pos (.inr (.inl hstop))]
  case inr.inr.inl => rw [stepError_of_ended e, if_pos (.inr (.inr (.inl ⟨hr, hirq⟩)))]
  case inr.inr.inr.inl => rw [stepError_of_ended e, if_pos (.inr (.inr (.inr ⟨hime, by simp [hirq]⟩)))]
  case inr.inr.inr.inr =>
    rw [stepError_of_fetch e, if_neg]
    · rfl
    · rintro (h | h | ⟨h, hirq⟩ | ⟨h, hirq⟩)
      · exact hr h
      · exact nomatch hstop.symm.trans h
      · exact hwake h hirq
      · exact hime.elim (fun h' => nomatch h'.symm.trans h) hirq

/-- Settles O4: the step and the error it reports, and the instructions by their completion. -/
theorem noStepStops : Obligations.NoStepStops := by
  refine ⟨fun s => ?step, fun i s => ?exec⟩
  case step =>
    obtain ⟨t, hstep, hnone, hsome⟩ := step_reports s
    exact ⟨t, stepError s, hstep, hostStep_of_step hstep, hnone, hsome, stepError_eq s⟩
  case exec =>
    obtain ⟨t, hexec, -⟩ := completes_control i s
    exact ⟨t, hexec⟩

end Sys2Proof.Machine
end

section
/-! The two half-carry formulas of the additions and subtractions (42_alu8.md R312, R313): both are the carry into bit 4, of the sum itself
or of A plus the complement of the operand. -/

namespace Sys2Proof.Machine

/-- The mask 0x10 tests bit 4. -/
theorem decide_and_sixteen_ne_zero (x : Byte) : decide (x &&& 0x10 ≠ 0) = x.getLsbD 4 := by
  rw [show (0x10 : Byte) = BitVec.twoPow 8 4 from rfl, BitVec.and_twoPow]
  cases x.getLsbD 4 <;> rfl

theorem add8_r_eq_add (a b : Byte) (cin : Bool) : (add8 a b cin).r = a + b + BitVec.setWidth 8 (BitVec.ofBool cin) := by
  apply BitVec.eq_of_toNat_eq
  cases cin <;> simp [add8]

/-- A subtraction adds the complement, with the borrow in complemented too. -/
theorem sub8_r_eq_add_not (a b : Byte) (cin : Bool) :
    (sub8 a b cin).r = a + ~~~b + BitVec.setWidth 8 (BitVec.ofBool (!cin)) := by
  cases cin with
  | false =>
    show a - b - 0 = a + ~~~b + 1
    bv_omega
  | true =>
    show a - b - 1 = a + ~~~b + 0
    bv_omega

theorem add8_h_eq_carry (a b : Byte) (cin : Bool) : (add8 a b cin).h = BitVec.carry 4 a b cin := rfl

theorem sub8_h_eq_not_carry (a b : Byte) (cin : Bool) : (sub8 a b cin).h = !BitVec.carry 4 a (~~~b) (!cin) := by
  have hlow : (~~~b).toNat % 16 = 15 - b.toNat % 16 := by
    rw [BitVec.toNat_not]
    omega
  simp only [sub8, BitVec.carry, ← decide_not, decide_eq_decide]
  cases cin <;> simp <;> omega

/-- Settles O28: in each formula bit 4 of a, of b and of the result leave the carry into that bit. -/
theorem halfCarryFormulasAgree : Obligations.HalfCarryFormulasAgree := by
  intro a b cin
  have hsum : ∀ x y carry : Bool, (x ^^ y ^^ (x ^^ (y ^^ carry))) = carry := by decide
  have hdifference : ∀ x y carry : Bool, (x ^^ y ^^ (x ^^ (!y ^^ carry))) = !carry := by decide
  constructor
  · rw [decide_and_sixteen_ne_zero, BitVec.getLsbD_xor, BitVec.getLsbD_xor, add8_r_eq_add,
      BitVec.getLsbD_add_add_bool (by decide), hsum]
    exact add8_h_eq_carry a b cin
  · rw [decide_and_sixteen_ne_zero, BitVec.getLsbD_xor, BitVec.getLsbD_xor, sub8_r_eq_add_not,
      BitVec.getLsbD_add_add_bool (by decide), BitVec.getLsbD_not, sub8_h_eq_not_carry]
    exact (hdifference _ _ _).symm

end Sys2Proof.Machine
end

section
/-! Canonical memories (10_state.md R47): one is determined by what it reads as, entry by entry from the lowest address. -/

namespace Sys2Proof.Machine

theorem memRead_of_lt {m : List Host.Cell} {x : Nat} (h : ∀ cell ∈ m, x < cell.1) : memRead m x = unlistedByte := by
  induction m with
  | nil => rfl
  | cons cell rest ih =>
    have hne : cell.1 ≠ x := Nat.ne_of_gt (h cell (by simp))
    rw [memRead, if_neg hne]
    exact ih fun c hc => h c (by simp [hc])

theorem memRead_head (cell : Host.Cell) (rest : List Host.Cell) : memRead (cell :: rest) cell.1 = cell.2 := by
  rw [memRead, if_pos rfl]

/-- The lowest entry of a canonical memory is missed in a memory whose entries all lie higher. -/
theorem memRead_ne_of_lt {cell : Host.Cell} {rest n : List Host.Cell} (hm : Memory.wf (cell :: rest)) (h : ∀ c ∈ n, cell.1 < c.1) :
    memRead (cell :: rest) cell.1 ≠ memRead n cell.1 := by
  rw [memRead_head, memRead_of_lt h]
  exact (hm.2 cell (by simp)).2

theorem Memory.wf.tail {cell : Host.Cell} {rest : List Host.Cell} (h : Memory.wf (cell :: rest)) : Memory.wf rest :=
  ⟨h.1.tail, fun c hc => h.2 c (by simp [hc])⟩

/-- The entries after the lowest lie above it. -/
theorem lt_of_wf_cons {cell : Host.Cell} {rest : List Host.Cell} (h : Memory.wf (cell :: rest)) : ∀ c ∈ rest, cell.1 < c.1 :=
  (List.pairwise_cons.mp h.1).1

theorem lt_of_lt_head {a : Nat} {cell : Host.Cell} {rest : List Host.Cell} (h : Memory.wf (cell :: rest)) (ha : a < cell.1) :
    ∀ c ∈ cell :: rest, a < c.1 := by
  intro c hc
  rcases List.mem_cons.mp hc with rfl | hc
  · exact ha
  · exact ha.trans (lt_of_wf_cons h c hc)

/-- What follows a common lowest entry reads alike at its address too, where both rests list nothing. -/
theorem memRead_tail_eq {cell : Host.Cell} {m n : List Host.Cell} (hm : Memory.wf (cell :: m)) (hn : Memory.wf (cell :: n)) {x : Nat}
    (h : memRead (cell :: m) x = memRead (cell :: n) x) : memRead m x = memRead n x := by
  by_cases hx : cell.1 = x
  · subst hx
    rw [memRead_of_lt (lt_of_wf_cons hm), memRead_of_lt (lt_of_wf_cons hn)]
  · rwa [memRead, memRead, if_neg hx, if_neg hx] at h

theorem eq_of_wf_of_memRead_eq {m n : List Host.Cell} (hm : Memory.wf m) (hn : Memory.wf n)
    (h : ∀ x, x < 65536 → memRead m x = memRead n x) : m = n := by
  induction m generalizing n with
  | nil =>
    cases n with
    | nil => rfl
    | cons d ns => exact absurd (h d.1 (hn.2 d (by simp)).1).symm (memRead_ne_of_lt hn (by simp))
  | cons c ms ih =>
    have hc := h c.1 (hm.2 c (by simp)).1
    cases n with
    | nil => exact absurd hc (memRead_ne_of_lt hm (by simp))
    | cons d ns =>
      have hd := h d.1 (hn.2 d (by simp)).1
      rcases Nat.lt_trichotomy c.1 d.1 with hlt | heq | hgt
      · exact absurd hc (memRead_ne_of_lt hm (lt_of_lt_head hn hlt))
      · obtain rfl : c = d := Prod.ext heq (by rw [← memRead_head c ms, hc, heq, memRead_head])
        rw [ih hm.tail hn.tail fun x hx => memRead_tail_eq hm hn (h x hx)]
      · exact absurd hd.symm (memRead_ne_of_lt hn (lt_of_lt_head hm hgt))

/-- Settles O27: an address is a word, so the 65536 addresses are all of them. -/
theorem canonicalMemoriesAreEqual : Obligations.CanonicalMemoriesAreEqual :=
  fun _ _ hm hn h => eq_of_wf_of_memRead_eq hm hn fun x hx => by simpa [Nat.mod_eq_of_lt hx] using h (BitVec.ofNat 16 x)

end Sys2Proof.Machine
end

section
/-! The register-file port (60_exceptions.md R722): its eight cells by code, F among them, and its four pairs. -/

namespace Sys2Proof.Machine

theorem hostReadReg_fin (s : State) (code : Fin 8) :
    hostReadReg s code.val = if code.val = 6 then s.flagReg else s.reg (Reg8.ofCode code.val) := by
  rw [hostReadReg, Nat.mod_eq_of_lt code.isLt]

theorem hostWriteReg_fin (s : State) (code : Fin 8) (v : Byte) :
    hostWriteReg s code.val v = if code.val = 6 then s.setFlagReg v else s.setReg (Reg8.ofCode code.val) v := by
  rw [hostWriteReg, Nat.mod_eq_of_lt code.isLt]

theorem flagReg_setFlagReg (s : State) (v : Byte) : (s.setFlagReg v).flagReg = v &&& 0xF0 := by
  rw [State.flagReg, State.setFlagReg_f, BitVec.and_assoc, BitVec.and_self]

/-- Two registers other than F have two codes. -/
theorem ofCode_ne_of_ne {code other : Fin 8} (h : other ≠ code) (hcode : code.val ≠ 6) (hother : other.val ≠ 6) :
    Reg8.ofCode other.val ≠ Reg8.ofCode code.val := by
  revert code other
  decide

/-- AF without the low nibble of F. -/
theorem joinBytes_hi8_lo8_and (v : Word) : joinBytes (hi8 v) (lo8 v &&& 0xF0) = v &&& 0xFFF0 := by
  calc joinBytes (hi8 v) (lo8 v &&& 0xF0) = (hi8 v &&& 0xFF) ++ (lo8 v &&& 0xF0) := by
        rw [show (0xFF : Byte) = BitVec.allOnes 8 from rfl, BitVec.and_allOnes]
        rfl
    _ = joinBytes (hi8 v) (lo8 v) &&& 0xFFF0 := BitVec.and_append.symm
    _ = v &&& 0xFFF0 := by rw [joinBytes_hi8_lo8]

/-- Settles O25: a cell by its code, F against the seven registers; a pair by its two cells. -/
theorem registerPortReadsBack : Obligations.RegisterPortReadsBack := by
  refine ⟨fun s code other v => ?cells, fun s p v => ?pairs⟩
  case cells =>
    simp only [hostReadReg_fin, hostWriteReg_fin]
    by_cases hcode : code.val = 6
    · simp only [hcode, if_true]
      refine ⟨flagReg_setFlagReg s v, fun hne => ?_⟩
      have hother : other.val ≠ 6 := fun h => hne (Fin.ext (h.trans hcode.symm))
      rw [if_neg hother, if_neg hother]
      exact s.setFlagReg_reg v _
    · simp only [hcode, if_false]
      refine ⟨s.reg_setReg_same _ v, fun hne => ?_⟩
      by_cases hother : other.val = 6
      · simp only [hother, if_true, State.flagReg, State.setReg_f]
      · rw [if_neg hother, if_neg hother, State.reg_setReg, if_neg (ofCode_ne_of_ne hne hcode hother)]
  case pairs =>
    by_cases hp : p = .af
    case pos =>
      subst hp
      rw [if_pos rfl]
      exact (congrArg (joinBytes (hi8 v)) (flagReg_setFlagReg s (lo8 v))).trans (joinBytes_hi8_lo8_and v)
    case neg =>
      rw [if_neg hp]
      exact State.stackPair_setStackPair hp s v

/-- Settles O6, each word by running the decoder on it. -/
theorem specWordsDecode : Obligations.SpecWordsDecode :=
  ⟨rfl, rfl, rfl, rfl, rfl, rfl, rfl, rfl, rfl, rfl, rfl⟩

end Sys2Proof.Machine
end

section
/-! Execute (30_encoding.md R141): its answers by what the opcode decodes to, and the law that POP undoes PUSH (41_load16_stack.md R254). -/

namespace Sys2Proof.Machine

theorem hostExecute_of_not_running {s : State} (h : s.runState ≠ .running) (op : Byte) : hostExecute s op = .refused .notRunning := by
  rw [hostExecute]
  cases hr : s.runState with
  | running => exact absurd hr h
  | _ => rfl

/-- The state in which Execute runs a handler: no request, and the EI delay done. -/
def State.executeEntry (s : State) : State := State.promoteIme { s with irqNow := none, irqAck := none }

theorem hostExecute_eq_of_handler {s t : State} {op : Byte} {i : Instr} (hrun : s.runState = .running)
    (hdecode : decode s.params.profile s.params.wordOrder op (s.readByte s.pc) (s.readByte (s.pc + 1)) = .instr i)
    (hhole : i.isHole = false) (hexec : exec i s.executeEntry = .next t) : hostExecute s op = .next ⟨t, none⟩ :=
  (hostExecute_of_handler hrun hdecode hhole).trans (congrArg (replyWith none) hexec)

/-- Settles O22: the three answers of the decoder, each by the answer of Execute in Running. -/
theorem executeRunsSuppliedOpcode : Obligations.ExecuteRunsSuppliedOpcode := by
  intro s op d
  refine ⟨fun hrun => hostExecute_of_not_running hrun op, fun hrun i hd hhole => ?handler, fun hrun i hd hhole => ?hole,
    fun hrun byte hd => ?unimplemented⟩
  case handler =>
    obtain ⟨t, hexec, -⟩ := completes_control i s.executeEntry
    exact ⟨t, hostExecute_eq_of_handler hrun hd hhole hexec, hexec⟩
  case hole =>
    rw [hostExecute_of_running hrun, show decode _ _ op _ _ = .instr i from hd]
    simp only [hhole, if_true, exec_hole hhole, raisedError_hole hhole, holeByte_of_decode hd hhole]
    rfl
  case unimplemented =>
    obtain ⟨-, rfl⟩ := decode_eq_unimplemented hd
    rw [hostExecute_of_running hrun, show decode _ _ byte _ _ = .unimplemented byte from hd]
    exact ⟨rfl, rfl⟩

/-! ## PUSH and then POP -/

theorem decode_push (prof : Profile) (o : WordOrder) (p : StackPair) (b1 b2 : Byte) :
    decode prof o (BitVec.ofNat 8 (0xC5 + 16 * p.code)) b1 b2 = .instr (Instr.push p) := by
  cases prof <;> cases p <;> rfl

theorem decode_pop (prof : Profile) (o : WordOrder) (p : StackPair) (b1 b2 : Byte) :
    decode prof o (BitVec.ofNat 8 (0xC1 + 16 * p.code)) b1 b2 = .instr (Instr.pop p) := by
  cases prof <;> cases p <;> rfl

/-- A POP whose two bytes on the stack are those of a pair of `s` gives that pair back; F's low nibble is not among what AF reads as. -/
theorem stackPair_popPair {p : StackPair} {s t : State} (hhigh : t.readByte (t.sp + 1) = hi8 (s.stackPair p))
    (hlow : t.readByte t.sp = lo8 (s.stackPair p)) : (popPair p t).stackPair p = s.stackPair p := by
  have hpop := popPair_loads p t
  rw [hhigh, hlow] at hpop
  split at hpop
  case isTrue hp =>
    subst hp
    obtain ⟨ha, hf⟩ := hpop
    show joinBytes (popPair .af t).a ((popPair .af t).f &&& 0xF0) = joinBytes s.a (s.f &&& 0xF0)
    rw [ha, hf, s.lo8_stackPair_af, BitVec.and_assoc, BitVec.and_assoc, BitVec.and_self, BitVec.and_self]
    exact congrArg (joinBytes · _) (hi8_joinBytes s.a s.flagReg)
  case isFalse =>
    obtain ⟨hpair, -⟩ := hpop
    rw [hpair, joinBytes_hi8_lo8]

theorem executeEntry_push_readByte (p : StackPair) (s : State) (x : Word) :
    (pushPair p s.executeEntry).executeEntry.readByte x = (s.push16 (s.stackPair p)).readByte x := rfl

/-- Settles O24: between the two calls nothing reaches the stack, so POP finds the two bytes that PUSH left. -/
theorem pushThenPopRestores : Obligations.PushThenPopRestores := by
  intro s p hrun
  refine ⟨pushPair p s.executeEntry, popPair p (pushPair p s.executeEntry).executeEntry,
    hostExecute_eq_of_handler hrun (decode_push _ _ p _ _) (isHole_push p) (exec_push p _),
    hostExecute_eq_of_handler hrun (decode_pop _ _ p _ _) (isHole_pop p) (exec_pop p _), stackPair_popPair ?high ?low, ?sp⟩
  case high =>
    have hsp : s.sp - 2 + 1 = s.sp - 1 := by bv_omega
    rw [executeEntry_push_readByte, show (pushPair p s.executeEntry).executeEntry.sp = s.sp - 2 from rfl, hsp]
    exact s.readByte_push16_high _
  case low =>
    rw [executeEntry_push_readByte]
    exact s.readByte_push16_low _
  case sp =>
    have hsp : s.sp - 2 + 2 = s.sp := by bv_omega
    exact (State.setStackPair_sp _ p _).trans hsp

end Sys2Proof.Machine
end

section
/-! Run (30_encoding.md R142, R147; 60_exceptions.md R705, R710): it returns after the steps that reach a Stopped core, or never. -/

namespace Sys2Proof.Machine

/-! ## A Stopped core -/

theorem hostStep_of_stopped {s : State} (h : s.runState = .stopped) : hostStep s = .next ⟨s.sample, none⟩ := by
  have hboundary : boundaryEvent s = .ended s.sample := by simp [boundaryEvent, boundaryOf, h]
  rw [hostStep_of_step (step_of_ended hboundary), stepError_of_ended hboundary]

theorem hostResume_of_stopped {s : State} (h : s.runState = .stopped) :
    hostResume s = { s with runState := .running, lastError := none } := by
  rw [hostResume, h]

theorem hostResume_of_not_stopped {s : State} (h : s.runState ≠ .stopped) : hostResume s = s := by
  rw [hostResume]
  cases hr : s.runState with
  | stopped => exact absurd hr h
  | _ => rfl

/-! ## The steps of a run -/

/-- The first Stopped core of the run from `s` is `t`, after `k` steps. -/
def StopsAfter (draws : Nat → BoundaryDraw) (k : Nat) (s t : State) : Prop :=
  t.runState = .stopped ∧ drawnSteps draws k s = .next t ∧
    ∀ n, n < k → ∃ u : State, drawnSteps draws n s = .next u ∧ u.runState ≠ .stopped

theorem stopsAfter_zero {draws : Nat → BoundaryDraw} {s t : State} : StopsAfter draws 0 s t ↔ s.runState = .stopped ∧ t = s := by
  constructor
  · rintro ⟨hstopped, hsteps, -⟩
    cases hsteps
    exact ⟨hstopped, rfl⟩
  · rintro ⟨hstopped, rfl⟩
    exact ⟨hstopped, rfl, fun n hn => absurd hn (Nat.not_lt_zero n)⟩

theorem stopsAfter_succ {draws : Nat → BoundaryDraw} {s t u : State} {k : Nat} (hu : step (s.withDraw (draws 0)) = .next u) :
    StopsAfter draws (k + 1) s t ↔ s.runState ≠ .stopped ∧ StopsAfter (fun n => draws (n + 1)) k u t := by
  have hsteps := drawnSteps_succ hu
  constructor
  · rintro ⟨hstopped, hlast, hbefore⟩
    obtain ⟨v, hv, hne⟩ := hbefore 0 (Nat.succ_pos k)
    cases hv
    refine ⟨hne, hstopped, (hsteps k).symm.trans hlast, fun n hn => ?_⟩
    rw [← hsteps]
    exact hbefore (n + 1) (Nat.succ_lt_succ hn)
  · rintro ⟨hne, hstopped, hlast, hbefore⟩
    refine ⟨hstopped, (hsteps k).trans hlast, fun n hn => ?_⟩
    cases n with
    | zero => exact ⟨s, rfl, hne⟩
    | succ n =>
      rw [hsteps]
      exact hbefore n (Nat.lt_of_succ_lt_succ hn)

/-- A run from a Stopped core takes no step. -/
theorem eq_zero_of_stopsAfter {draws : Nat → BoundaryDraw} {s t : State} {k : Nat} (h : StopsAfter draws k s t)
    (hs : s.runState = .stopped) : k = 0 := by
  obtain ⟨-, -, hbefore⟩ := h
  rcases Nat.eq_zero_or_pos k with hk | hk
  · exact hk
  · obtain ⟨u, hu, hne⟩ := hbefore 0 hk
    cases hu
    exact absurd hs hne

/-- If some step of a run reaches a Stopped core, there is a first that does. -/
theorem exists_stopsAfter {draws : Nat → BoundaryDraw} {s t : State} {k : Nat} (hsteps : drawnSteps draws k s = .next t)
    (hstopped : t.runState = .stopped) : ∃ n u, StopsAfter draws n s u := by
  induction k generalizing draws s with
  | zero =>
    cases hsteps
    exact ⟨0, _, stopsAfter_zero.mpr ⟨hstopped, rfl⟩⟩
  | succ k ih =>
    by_cases hs : s.runState = .stopped
    · exact ⟨0, s, stopsAfter_zero.mpr ⟨hs, rfl⟩⟩
    · obtain ⟨v, hv, -⟩ := step_reports (s.withDraw (draws 0))
      rw [drawnSteps_succ hv] at hsteps
      obtain ⟨n, u, hfirst⟩ := ih hsteps
      exact ⟨n + 1, u, (stopsAfter_succ hv).mpr ⟨hs, hfirst⟩⟩

/-! ## Run -/

theorem hostRun_eq_some_of_stopped {draws : Nat → BoundaryDraw} {fuel : Nat} {s : State} {r : HostReply}
    (hs : s.runState = .stopped) :
    hostRun draws fuel s = some r ↔ r.error = r.state.lastError ∧ ∃ k, k ≤ fuel ∧ StopsAfter draws k s r.state := by
  rw [hostRun_of_stopped hs]
  constructor
  · rintro ⟨⟩
    exact ⟨rfl, 0, Nat.zero_le fuel, stopsAfter_zero.mpr ⟨hs, rfl⟩⟩
  · rintro ⟨herror, k, -, hfirst⟩
    obtain rfl := eq_zero_of_stopsAfter hfirst hs
    obtain ⟨-, hstate⟩ := stopsAfter_zero.mp hfirst
    rw [← hstate, ← herror]

/-- Run returns the first Stopped core of the run and its last_error, if the bound allows the steps to it. -/
theorem hostRun_eq_some {draws : Nat → BoundaryDraw} {fuel : Nat} {s : State} {r : HostReply} :
    hostRun draws fuel s = some r ↔ r.error = r.state.lastError ∧ ∃ k, k ≤ fuel ∧ StopsAfter draws k s r.state := by
  induction fuel generalizing draws s with
  | zero =>
    by_cases hs : s.runState = .stopped
    · exact hostRun_eq_some_of_stopped hs
    · rw [hostRun_zero hs]
      constructor
      · rintro ⟨⟩
      · rintro ⟨-, k, hk, hfirst⟩
        obtain rfl := Nat.le_zero.mp hk
        exact absurd (stopsAfter_zero.mp hfirst).1 hs
  | succ fuel ih =>
    by_cases hs : s.runState = .stopped
    · exact hostRun_eq_some_of_stopped hs
    · obtain ⟨u, hu, -⟩ := step_reports (s.withDraw (draws 0))
      rw [hostRun_succ hs hu, ih]
      constructor
      · rintro ⟨herror, k, hk, hfirst⟩
        exact ⟨herror, k + 1, Nat.succ_le_succ hk, (stopsAfter_succ hu).mpr ⟨hs, hfirst⟩⟩
      · rintro ⟨herror, k, hk, hfirst⟩
        cases k with
        | zero => exact absurd (stopsAfter_zero.mp hfirst).1 hs
        | succ k => exact ⟨herror, k, Nat.le_of_succ_le_succ hk, ((stopsAfter_succ hu).mp hfirst).2⟩

theorem runHangs_iff {draws : Nat → BoundaryDraw} {s : State} :
    RunHangs draws s ↔ ∀ (k : Nat) (t : State), drawnSteps draws k s = .next t → t.runState ≠ .stopped := by
  constructor
  · intro hhangs k t hsteps hstopped
    obtain ⟨n, u, hfirst⟩ := exists_stopsAfter hsteps hstopped
    have hreturns := hostRun_eq_some (r := ⟨u, u.lastError⟩).mpr ⟨rfl, n, Nat.le_refl n, hfirst⟩
    cases (hhangs n).symm.trans hreturns
  · intro hnever fuel
    cases hrun : hostRun draws fuel s with
    | none => rfl
    | some r =>
      obtain ⟨-, k, -, hstopped, hsteps, -⟩ := hostRun_eq_some.mp hrun
      exact absurd hstopped (hnever k _ hsteps)

/-- A run that does not hang returns within some bound. -/
theorem runHangs_or_runEnds (draws : Nat → BoundaryDraw) (s : State) : RunHangs draws s ∨ ∃ e, RunEnds draws s e := by
  by_cases h : RunHangs draws s
  · exact .inl h
  · obtain ⟨fuel, hrun⟩ := not_forall.mp h
    obtain ⟨⟨t, e⟩, hreply⟩ := Option.ne_none_iff_exists'.mp hrun
    exact .inr ⟨e, fuel, t, hreply⟩

/-- Settles O19: the calls of a Stopped core, and Run by the first Stopped core of the run. -/
theorem stoppedCoreWaitsForResume : Obligations.StoppedCoreWaitsForResume := by
  refine ⟨fun s => ⟨fun h => ⟨hostStep_of_stopped h, hostResume_of_stopped h⟩, hostResume_of_not_stopped⟩, fun draws s =>
    ⟨fun fuel r => ?run, runHangs_iff, runHangs_or_runEnds draws s⟩⟩
  rw [hostRun_eq_some]
  constructor
  · rintro ⟨herror, k, hk, hstopped, hsteps⟩
    exact ⟨herror, hstopped, k, hk, hsteps⟩
  · rintro ⟨herror, hstopped, k, hk, hsteps⟩
    exact ⟨herror, k, hk, hstopped, hsteps⟩

end Sys2Proof.Machine
end
